-- ==== Sys2Proof/Word.lean ====
section
/-!
DEFINITION. Sys2Proof/Word.lean: the two widths of the hardware (R5: DATA_W = 8, ADDR_W = 16). R6 calls them
`Byte` and `Word`; their `+` and `-` wrap modulo 2^8 and 2^16, as BitVec's do.
-/

namespace Sys2Proof

/-- An unsigned 8-bit value (R6). -/
abbrev Byte := BitVec 8

/-- An unsigned 16-bit value (R6). -/
abbrev Word := BitVec 16

end Sys2Proof
end

