-- ==== Sys2Proof/Syntax.lean ====
section
/-!
DEFINITION. Sys2Proof/Syntax.lean: the operand tables (R143) and the instructions, one constructor per row of
spec/opcode_table.json. A form with a table-r operand that may not be `(HL)` takes a `Reg8`, so the reserved field
value 6 cannot be written.
-/

namespace Sys2Proof

/-- Table r without its entry 6, `(HL)` (R143). -/
inductive Reg8 where
  | b | c | d | e | h | l | a
  deriving DecidableEq, Repr

/-- An index register, selected by the DD or the FD prefix byte (R151). -/
inductive Idx where
  | ix | iy
  deriving DecidableEq, Repr

/-- A half of an index register (R48): XH is table entry 4, XL entry 5. -/
inductive Half where
  | xh | xl
  deriving DecidableEq, Repr

/-- Table r' of R218: table r with entries 4 and 5 replaced by the halves of the index register. -/
inductive XReg8 where
  | b | c | d | e | xh | xl | a
  deriving DecidableEq, Repr

/-- Table rp (R143), the operands `dd` and `ss`. -/
inductive RP where
  | bc | de | hl | sp
  deriving DecidableEq, Repr

/-- Table rp2 (R143), the operand `qq`. -/
inductive RP2 where
  | bc | de | hl | af
  deriving DecidableEq, Repr

/-- The operand `pp` of `ADD IX,pp`: table rp with HL replaced by the index register itself (R372). -/
inductive XRP where
  | bc | de | self | sp
  deriving DecidableEq, Repr

/-- Table cc (R143, R146). -/
inductive Cond where
  | nz | z | nc | c | po | pe | p | m
  deriving DecidableEq, Repr

/-- The four conditions of `JR cc,e` (R146, R443). -/
inductive JrCond where
  | nz | z | nc | c
  deriving DecidableEq, Repr

/-- The interrupt mode selector (R54). -/
inductive IMode where
  | im0 | im1 | im2
  deriving DecidableEq, Repr

/-- The instruction forms. The docstring of each names the form and the rule that gives its meaning. In the rows of
the DD and FD forms the operand `x` is the index register the prefix byte selects. -/
inductive Instr where
  -- the prefix rows: a prefix byte alone is no whole instruction (R164)
  /-- `prefix CB`, R148. -/
  | prefixCB
  /-- `prefix DD`, R151. -/
  | prefixDD
  /-- `prefix ED`, R149. -/
  | prefixED
  /-- `prefix FD`, R151. -/
  | prefixFD
  /-- `prefix DDCB/FDCB`, R154. -/
  | prefixDDCB (x : Idx)
  -- unprefixed forms (R144)
  /-- `NOP`, R346. -/
  | nop
  /-- `LD dd,nn`, R240. -/
  | ldDdNn (dd : RP) (nn : Word)
  /-- `LD (BC),A`, R211. -/
  | ldBcIndA
  /-- `INC ss`, R375. -/
  | incSs (ss : RP)
  /-- `INC r`, R314. -/
  | incR (r : Reg8)
  /-- `DEC r`, R317. -/
  | decR (r : Reg8)
  /-- `LD r,n`, R201. -/
  | ldRN (r : Reg8) (n : Byte)
  /-- `RLCA`, R391. -/
  | rlca
  /-- `EX AF,AF'`, R260. -/
  | exAfAf
  /-- `ADD HL,ss`, R371. -/
  | addHlSs (ss : RP)
  /-- `LD A,(BC)`, R208. -/
  | ldABcInd
  /-- `DEC ss`, R377. -/
  | decSs (ss : RP)
  /-- `RRCA`, R392. -/
  | rrca
  /-- `DJNZ e`, R446. -/
  | djnz (e : Byte)
  /-- `LD (DE),A`, R212. -/
  | ldDeIndA
  /-- `RLA`, R393. -/
  | rla
  /-- `JR e`, R442. -/
  | jr (e : Byte)
  /-- `LD A,(DE)`, R209. -/
  | ldADeInd
  /-- `RRA`, R394. -/
  | rra
  /-- `JR cc,e`, R443. -/
  | jrCc (cc : JrCond) (e : Byte)
  /-- `LD (nn),HL`, R245. -/
  | ldNnIndHl (nn : Word)
  /-- `DAA`, R340. -/
  | daa
  /-- `LD HL,(nn)`, R242. -/
  | ldHlNnInd (nn : Word)
  /-- `CPL`, R341. -/
  | cpl
  /-- `LD (nn),A`, R213. -/
  | ldNnIndA (nn : Word)
  /-- `INC (HL)`, R315. -/
  | incHlInd
  /-- `DEC (HL)`, R318. -/
  | decHlInd
  /-- `LD (HL),n`, R204. -/
  | ldHlIndN (n : Byte)
  /-- `SCF`, R345. -/
  | scf
  /-- `LD A,(nn)`, R210. -/
  | ldANnInd (nn : Word)
  /-- `CCF`, R344. -/
  | ccf
  /-- `LD r,r'`, R200. -/
  | ldRR (y : Reg8) (z : Reg8)
  /-- `LD r,(HL)`, R202. -/
  | ldRHlInd (r : Reg8)
  /-- `LD (HL),r`, R203. -/
  | ldHlIndR (r : Reg8)
  /-- `HALT`, R349. -/
  | halt
  /-- `ADD A,r`, R305. -/
  | addAR (r : Reg8)
  /-- `ADD A,(HL)`, R305. -/
  | addAHlInd
  /-- `ADC A,r`, R306. -/
  | adcAR (r : Reg8)
  /-- `ADC A,(HL)`, R306. -/
  | adcAHlInd
  /-- `SUB r`, R307. -/
  | subR (r : Reg8)
  /-- `SUB (HL)`, R307. -/
  | subHlInd
  /-- `SBC A,r`, R308. -/
  | sbcAR (r : Reg8)
  /-- `SBC A,(HL)`, R308. -/
  | sbcAHlInd
  /-- `AND r`, R309. -/
  | andR (r : Reg8)
  /-- `AND (HL)`, R309. -/
  | andHlInd
  /-- `XOR r`, R310. -/
  | xorR (r : Reg8)
  /-- `XOR (HL)`, R310. -/
  | xorHlInd
  /-- `OR r`, R311. -/
  | orR (r : Reg8)
  /-- `OR (HL)`, R311. -/
  | orHlInd
  /-- `CP r`, R312. -/
  | cpR (r : Reg8)
  /-- `CP (HL)`, R312. -/
  | cpHlInd
  /-- `RET cc`, R450. -/
  | retCc (cc : Cond)
  /-- `POP qq`, R252. -/
  | popQq (qq : RP2)
  /-- `JP cc,nn`, R441. -/
  | jpCcNn (cc : Cond) (nn : Word)
  /-- `JP nn`, R440. -/
  | jpNn (nn : Word)
  /-- `CALL cc,nn`, R448. -/
  | callCcNn (cc : Cond) (nn : Word)
  /-- `PUSH qq`, R250. -/
  | pushQq (qq : RP2)
  /-- `ADD A,n`, R305. -/
  | addAN (n : Byte)
  /-- `RST p`, R458. -/
  | rst (t : BitVec 3)
  /-- `RET`, R449. -/
  | ret
  /-- `CALL nn`, R447. -/
  | callNn (nn : Word)
  /-- `ADC A,n`, R306. -/
  | adcAN (n : Byte)
  /-- `OUT (n),A`, R475. -/
  | outNA (n : Byte)
  /-- `SUB n`, R307. -/
  | subN (n : Byte)
  /-- `EXX`, R261. -/
  | exx
  /-- `IN A,(n)`, R472. -/
  | inAN (n : Byte)
  /-- `SBC A,n`, R308. -/
  | sbcAN (n : Byte)
  /-- `EX (SP),HL`, R263. -/
  | exSpHl
  /-- `AND n`, R309. -/
  | andN (n : Byte)
  /-- `JP (HL)`, R444. -/
  | jpHl
  /-- `EX DE,HL`, R262. -/
  | exDeHl
  /-- `XOR n`, R310. -/
  | xorN (n : Byte)
  /-- `DI`, R350. -/
  | di
  /-- `OR n`, R311. -/
  | orN (n : Byte)
  /-- `LD SP,HL`, R248. -/
  | ldSpHl
  /-- `EI`, R351. -/
  | ei
  /-- `CP n`, R312. -/
  | cpN (n : Byte)
  -- CB forms (R148)
  /-- `RLC r`, R395. -/
  | rlcR (r : Reg8)
  /-- `RLC (HL)`, R395. -/
  | rlcHlInd
  /-- `RRC r`, R396. -/
  | rrcR (r : Reg8)
  /-- `RRC (HL)`, R396. -/
  | rrcHlInd
  /-- `RL r`, R397. -/
  | rlR (r : Reg8)
  /-- `RL (HL)`, R397. -/
  | rlHlInd
  /-- `RR r`, R398. -/
  | rrR (r : Reg8)
  /-- `RR (HL)`, R398. -/
  | rrHlInd
  /-- `SLA r`, R399. -/
  | slaR (r : Reg8)
  /-- `SLA (HL)`, R399. -/
  | slaHlInd
  /-- `SRA r`, R400. -/
  | sraR (r : Reg8)
  /-- `SRA (HL)`, R400. -/
  | sraHlInd
  /-- `SLL r`, R401, undocumented. -/
  | sllR (r : Reg8)
  /-- `SLL (HL)`, R401, undocumented. -/
  | sllHlInd
  /-- `SRL r`, R402. -/
  | srlR (r : Reg8)
  /-- `SRL (HL)`, R402. -/
  | srlHlInd
  /-- `BIT b,r`, R420. -/
  | bitBR (b : BitVec 3) (r : Reg8)
  /-- `BIT b,(HL)`, R421. -/
  | bitBHlInd (b : BitVec 3)
  /-- `RES b,r`, R425. -/
  | resBR (b : BitVec 3) (r : Reg8)
  /-- `RES b,(HL)`, R425. -/
  | resBHlInd (b : BitVec 3)
  /-- `SET b,r`, R424. -/
  | setBR (b : BitVec 3) (r : Reg8)
  /-- `SET b,(HL)`, R424. -/
  | setBHlInd (b : BitVec 3)
  -- ED forms (R149)
  /-- `NOP (ED hole)`, R347. -/
  | nopEdHole (op : Byte)
  /-- `IN r,(C)`, R473. -/
  | inRC (r : Reg8)
  /-- `OUT (C),r`, R476. -/
  | outCR (r : Reg8)
  /-- `SBC HL,ss`, R374. -/
  | sbcHlSs (ss : RP)
  /-- `LD (nn),dd`, R246. -/
  | ldNnIndDd (dd : RP) (nn : Word)
  /-- `NEG`, R342. -/
  | neg
  /-- `RETN`, R456. -/
  | retn
  /-- `IM 0`, R355. -/
  | im0
  /-- `LD I,A`, R216. -/
  | ldIA
  /-- `ADC HL,ss`, R373. -/
  | adcHlSs (ss : RP)
  /-- `LD dd,(nn)`, R243. -/
  | ldDdNnInd (dd : RP) (nn : Word)
  /-- `NEG (mirror)`, R343, undocumented. -/
  | negMirror (y : BitVec 3)
  /-- `RETI`, R457. -/
  | reti
  /-- `IM (mirror)`, R356, undocumented. -/
  | imMirror (y : BitVec 3)
  /-- `LD R,A`, R217. -/
  | ldRfshA
  /-- `RETN (mirror)`, R459, undocumented. -/
  | retnMirror (y : BitVec 3)
  /-- `IM 1`, R355. -/
  | im1
  /-- `LD A,I`, R214. -/
  | ldAI
  /-- `IM 2`, R355. -/
  | im2
  /-- `LD A,R`, R215. -/
  | ldARfsh
  /-- `RRD`, R404. -/
  | rrd
  /-- `RLD`, R403. -/
  | rld
  /-- `IN F,(C)`, R474, undocumented. -/
  | inFC
  /-- `OUT (C),0`, R477, undocumented. -/
  | outC0
  /-- `LDI`, R281. -/
  | ldi
  /-- `CPI`, R285. -/
  | cpi
  /-- `INI`, R479. -/
  | ini
  /-- `OUTI`, R483. -/
  | outi
  /-- `LDD`, R283. -/
  | ldd
  /-- `CPD`, R287. -/
  | cpd
  /-- `IND`, R481. -/
  | ind
  /-- `OUTD`, R485. -/
  | outd
  /-- `LDIR`, R282. -/
  | ldir
  /-- `CPIR`, R286. -/
  | cpir
  /-- `INIR`, R480. -/
  | inir
  /-- `OTIR`, R484. -/
  | otir
  /-- `LDDR`, R284. -/
  | lddr
  /-- `CPDR`, R288. -/
  | cpdr
  /-- `INDR`, R482. -/
  | indr
  /-- `OTDR`, R486. -/
  | otdr
  -- DD and FD indexed forms (R151, R152)
  /-- `ADD IX,pp`, R372. -/
  | addIxPp (x : Idx) (pp : XRP)
  /-- `LD IX,nn`, R241. -/
  | ldIxNn (x : Idx) (nn : Word)
  /-- `LD (nn),IX`, R247. -/
  | ldNnIndIx (x : Idx) (nn : Word)
  /-- `INC IX`, R376. -/
  | incIx (x : Idx)
  /-- `INC IXH/IXL`, R320, undocumented. -/
  | incHalf (x : Idx) (p : Half)
  /-- `DEC IXH/IXL`, R320, undocumented. -/
  | decHalf (x : Idx) (p : Half)
  /-- `LD IXH/IXL,n`, R219, undocumented. -/
  | ldHalfN (x : Idx) (p : Half) (n : Byte)
  /-- `LD IX,(nn)`, R244. -/
  | ldIxNnInd (x : Idx) (nn : Word)
  /-- `DEC IX`, R378. -/
  | decIx (x : Idx)
  /-- `INC (IX+d)`, R316. -/
  | incIxd (x : Idx) (d : Byte)
  /-- `DEC (IX+d)`, R319. -/
  | decIxd (x : Idx) (d : Byte)
  /-- `LD (IX+d),n`, R207. -/
  | ldIxdN (x : Idx) (d : Byte) (n : Byte)
  /-- `LD r,r' (index halves)`, R218, undocumented. -/
  | ldHalves (x : Idx) (y : XReg8) (z : XReg8)
  /-- `LD r,(IX+d)`, R205. -/
  | ldRIxd (x : Idx) (r : Reg8) (d : Byte)
  /-- `LD (IX+d),r`, R206. -/
  | ldIxdR (x : Idx) (d : Byte) (r : Reg8)
  /-- `ADD A,IXH/IXL`, R313, undocumented. -/
  | addAHalf (x : Idx) (p : Half)
  /-- `ADD A,(IX+d)`, R305. -/
  | addAIxd (x : Idx) (d : Byte)
  /-- `ADC A,IXH/IXL`, R313, undocumented. -/
  | adcAHalf (x : Idx) (p : Half)
  /-- `ADC A,(IX+d)`, R306. -/
  | adcAIxd (x : Idx) (d : Byte)
  /-- `SUB IXH/IXL`, R313, undocumented. -/
  | subHalf (x : Idx) (p : Half)
  /-- `SUB (IX+d)`, R307. -/
  | subIxd (x : Idx) (d : Byte)
  /-- `SBC A,IXH/IXL`, R313, undocumented. -/
  | sbcAHalf (x : Idx) (p : Half)
  /-- `SBC A,(IX+d)`, R308. -/
  | sbcAIxd (x : Idx) (d : Byte)
  /-- `AND IXH/IXL`, R313, undocumented. -/
  | andHalf (x : Idx) (p : Half)
  /-- `AND (IX+d)`, R309. -/
  | andIxd (x : Idx) (d : Byte)
  /-- `XOR IXH/IXL`, R313, undocumented. -/
  | xorHalf (x : Idx) (p : Half)
  /-- `XOR (IX+d)`, R310. -/
  | xorIxd (x : Idx) (d : Byte)
  /-- `OR IXH/IXL`, R313, undocumented. -/
  | orHalf (x : Idx) (p : Half)
  /-- `OR (IX+d)`, R311. -/
  | orIxd (x : Idx) (d : Byte)
  /-- `CP IXH/IXL`, R313, undocumented. -/
  | cpHalf (x : Idx) (p : Half)
  /-- `CP (IX+d)`, R312. -/
  | cpIxd (x : Idx) (d : Byte)
  /-- `POP IX`, R253. -/
  | popIx (x : Idx)
  /-- `EX (SP),IX`, R264. -/
  | exSpIx (x : Idx)
  /-- `PUSH IX`, R251. -/
  | pushIx (x : Idx)
  /-- `JP (IX)`, R445. -/
  | jpIx (x : Idx)
  /-- `LD SP,IX`, R249. -/
  | ldSpIx (x : Idx)
  -- DDCB and FDCB forms (R154)
  /-- `RLC (IX+d),r`, R405, undocumented. -/
  | rlcIxdR (x : Idx) (d : Byte) (r : Reg8)
  /-- `RLC (IX+d)`, R395. -/
  | rlcIxd (x : Idx) (d : Byte)
  /-- `RRC (IX+d),r`, R405, undocumented. -/
  | rrcIxdR (x : Idx) (d : Byte) (r : Reg8)
  /-- `RRC (IX+d)`, R396. -/
  | rrcIxd (x : Idx) (d : Byte)
  /-- `RL (IX+d),r`, R405, undocumented. -/
  | rlIxdR (x : Idx) (d : Byte) (r : Reg8)
  /-- `RL (IX+d)`, R397. -/
  | rlIxd (x : Idx) (d : Byte)
  /-- `RR (IX+d),r`, R405, undocumented. -/
  | rrIxdR (x : Idx) (d : Byte) (r : Reg8)
  /-- `RR (IX+d)`, R398. -/
  | rrIxd (x : Idx) (d : Byte)
  /-- `SLA (IX+d),r`, R405, undocumented. -/
  | slaIxdR (x : Idx) (d : Byte) (r : Reg8)
  /-- `SLA (IX+d)`, R399. -/
  | slaIxd (x : Idx) (d : Byte)
  /-- `SRA (IX+d),r`, R405, undocumented. -/
  | sraIxdR (x : Idx) (d : Byte) (r : Reg8)
  /-- `SRA (IX+d)`, R400. -/
  | sraIxd (x : Idx) (d : Byte)
  /-- `SLL (IX+d),r`, R405, undocumented. -/
  | sllIxdR (x : Idx) (d : Byte) (r : Reg8)
  /-- `SLL (IX+d)`, R401, undocumented. -/
  | sllIxd (x : Idx) (d : Byte)
  /-- `SRL (IX+d),r`, R405, undocumented. -/
  | srlIxdR (x : Idx) (d : Byte) (r : Reg8)
  /-- `SRL (IX+d)`, R402. -/
  | srlIxd (x : Idx) (d : Byte)
  /-- `BIT b,(IX+d) (alias)`, R423, undocumented. -/
  | bitBIxdZ (x : Idx) (b : BitVec 3) (d : Byte) (z : Reg8)
  /-- `BIT b,(IX+d)`, R422. -/
  | bitBIxd (x : Idx) (b : BitVec 3) (d : Byte)
  /-- `RES b,(IX+d),r`, R426, undocumented. -/
  | resBIxdR (x : Idx) (b : BitVec 3) (d : Byte) (r : Reg8)
  /-- `RES b,(IX+d)`, R425. -/
  | resBIxd (x : Idx) (b : BitVec 3) (d : Byte)
  /-- `SET b,(IX+d),r`, R426, undocumented. -/
  | setBIxdR (x : Idx) (b : BitVec 3) (d : Byte) (r : Reg8)
  /-- `SET b,(IX+d)`, R424. -/
  | setBIxd (x : Idx) (b : BitVec 3) (d : Byte)
  deriving DecidableEq, Repr

end Sys2Proof
end

