-- ==== Sys2Proof/Config.lean ====
section
/-!
DEFINITION. Sys2Proof/Config.lean: what an implementation fixes and what the spec leaves free (R5). The values of the
parameters are plain data in State (field `cfg`); here stand their types, the fixed PREFIX_LIMIT, the ZX Spectrum
profile's constants, and the free values: constants without a body, of which no proof can see a value.
-/

namespace Sys2Proof

/-- `UNDOC` (R5, R160). -/
inductive UndocPolicy where
  | silicon | refuse
  deriving DecidableEq, Repr

/-- `XY_POLICY` (R5, R10). -/
inductive XyPolicy where
  | silicon | draw
  deriving DecidableEq, Repr

/-- `UNSET_READ` (R5, R62). -/
inductive UnsetPolicy where
  | draw | fault
  deriving DecidableEq, Repr

/-- A range of addresses, both ends included (R106: "read-only region flag per address range"). -/
structure AddrRange where
  first : Word
  last : Word
  deriving DecidableEq, Repr

/-- Is the address in the range? -/
def AddrRange.has (g : AddrRange) (a : Word) : Bool := g.first.toNat ≤ a.toNat && a.toNat ≤ g.last.toNat

/-- The direction of a port event (R470). -/
inductive Dir where
  | input | output
  deriving DecidableEq, Repr

/-- A port event `(dir, a16, v, t)` of `io_log` (R470): `t` is the clock at the start of the engine step. -/
structure PortEvent where
  dir : Dir
  addr : Word
  value : Byte
  time : Nat
  deriving DecidableEq, Repr

/-- One sample of INT_ENV (R510): the level of the maskable input, an NMI edge, and the bytes the device supplies. -/
structure IntSample where
  intLine : Bool
  nmiEdge : Bool
  intData : List Byte
  deriving DecidableEq, Repr, Inhabited

/-- `PREFIX_LIMIT` (R5, R156). -/
def Config.prefixLimit : Nat := 65536

/-- `ROM_REGION` of the ZX Spectrum 48K profile (R106, R108). -/
def Config.spectrumRom : List AddrRange := [⟨0x0000, 0x3FFF⟩]

/-- FREE VALUE (R9 `draw`, R10, R59): the free flag bits of the k-th write of F that draws. Bit n stands for the draw of
bit n of F. No body: nothing is known of it (log entry 6). -/
opaque Config.freeFlags : Nat → Byte

/-- FREE VALUE (R470): `PORT_IN`, the answer of a port read to the 16-bit address and the port history before it. No
body: nothing is known of it (log entry 5). -/
opaque Config.portIn : Word → List PortEvent → Byte

/-- FREE VALUE (R510, D8): an INT_ENV under no law, a function of the number of boundaries, the clock and the port history. No
body: nothing is known of it (log entry 4). -/
opaque Config.intEnv : Nat → Nat → List PortEvent → IntSample

/-- FREE VALUE (R601, D35): a RESET_ENV under no law, "an oracle from the boundary count to a bit" (R5). No body: nothing is
known of it (log entry 4). -/
opaque Config.resetEnv : Nat → Bool

/-- FREE VALUE (R562): the k-th predicate of the host over (before, after), "any total function". No body (log entry
8). -/
opaque Config.hostPred : Nat → Word → Word → Bool

end Sys2Proof
end

