-- ==== Sys2Proof/Machine/Bits.lean ====
section
/-!
DEFINITION. Sys2Proof/Machine/Bits.lean: the bit-field, byte-order and sign-extension helpers of the notation
(R6, R147) and the fields of an opcode byte (R142).
-/

namespace Sys2Proof

/-- `hi(w) = w[15:8]` (R6). -/
def hi (w : Word) : Byte := w.extractLsb' 8 8

/-- `lo(w) = w[7:0]` (R6). -/
def lo (w : Word) : Byte := w.extractLsb' 0 8

/-- `h : l`, the Word with high byte `h` and low byte `l` (R6). -/
def join (h l : Byte) : Word := h ++ l

/-- `sext_8(b)` as a Word: the Byte read as two's complement, for addition modulo 2^16 (R6, R145). -/
def sext8 (b : Byte) : Word := b.signExtend 16

/-- `zext_16(b)` (R6). -/
def zext16 (b : Byte) : Word := b.setWidth 16

/-- The x field, b[7:6] (R142). -/
def fieldX (b : Byte) : Nat := b.toNat / 64

/-- The y field, b[5:3] (R142). -/
def fieldY (b : Byte) : Nat := b.toNat / 8 % 8

/-- The z field, b[2:0] (R142). -/
def fieldZ (b : Byte) : Nat := b.toNat % 8

/-- The opcode byte with the fields x, y and z (R142). -/
def opc (x y z : Nat) : Byte := BitVec.ofNat 8 (64 * x + 8 * y + z)

/-- The opcode byte with the fields x, p, q and z, where y = 2p + q (R142). -/
def opq (x p q z : Nat) : Byte := opc x (2 * p + q) z

end Sys2Proof
end

