-- ==== Sys2Proof/WellFormed.lean ====
section
/-!
DEFINITION. Sys2Proof/WellFormed.lean: which instructions are the reading of some byte sequence. The operand types of
Syntax.lean already shut out the reserved table entries; what is left is checked here.
-/

namespace Sys2Proof

/-- The ED holes (R150): ED 00-3F, 77, 7F, 80-9F, A4-A7, AC-AF, B4-B7, BC-BF and C0-FF. -/
def isEdHole (op : Byte) : Bool :=
  let n := op.toNat
  n ≤ 0x3F || n == 0x77 || n == 0x7F || (0x80 ≤ n && n ≤ 0x9F) || (0xA4 ≤ n && n ≤ 0xA7) || (0xAC ≤ n && n ≤ 0xAF) ||
    (0xB4 ≤ n && n ≤ 0xB7) || (0xBC ≤ n && n ≤ 0xBF) || 0xC0 ≤ n

/-- Is the entry of table r' an index half (R218)? -/
def XReg8.isHalf : XReg8 → Bool
  | .xh | .xl => true
  | _ => false

/-- A well-formed instruction is the reading of a whole instruction's bytes:
- a prefix row is none: a prefix byte alone is no instruction (R164);
- `NOP (ED hole)` holds a hole byte (R150);
- `NEG`, `RETN` and `IM` mirrors hold a y field that is not the documented form's (R343, R459, R356);
- `LD r,r' (index halves)` names at least one half (R218). -/
def Instr.wf : Instr → Bool
  | .prefixCB | .prefixDD | .prefixED | .prefixFD | .prefixDDCB _ => false
  | .nopEdHole op => isEdHole op
  | .negMirror y => y != 0
  | .retnMirror y => 2 ≤ y.toNat
  | .imMirror y => y == 1 || 4 ≤ y.toNat
  | .ldHalves _ y z => y.isHalf || z.isHalf
  | _ => true

/-- Is the byte an indexed opcode byte, one of the 85 that R151 lists? -/
def isIndexedByte (op : Byte) : Bool :=
  let n := op.toNat
  [0x09, 0x19, 0x29, 0x39, 0x21, 0x22, 0x2A, 0x23, 0x2B, 0x24, 0x25, 0x26, 0x2C, 0x2D, 0x2E, 0x34, 0x35, 0x36].contains n ||
  [0x44, 0x45, 0x46, 0x4C, 0x4D, 0x4E, 0x54, 0x55, 0x56, 0x5C, 0x5D, 0x5E, 0x77, 0x7C, 0x7D, 0x7E].contains n ||
  (0x60 ≤ n && n ≤ 0x75) ||
  [0x84, 0x85, 0x86, 0x8C, 0x8D, 0x8E, 0x94, 0x95, 0x96, 0x9C, 0x9D, 0x9E].contains n ||
  [0xA4, 0xA5, 0xA6, 0xAC, 0xAD, 0xAE, 0xB4, 0xB5, 0xB6, 0xBC, 0xBD, 0xBE].contains n ||
  [0xE1, 0xE3, 0xE5, 0xE9, 0xF9].contains n

end Sys2Proof
end

