-- ==== Sys2Proof/Decode.lean ====
section
/-!
DEFINITION. Sys2Proof/Decode.lean: the decoder (R140 to R156) and, after it, the encoder, both written from the
operand tables and the opcode maps of 30_encoding.md; then the columns of spec/opcode_table.json (R164). The decoder
takes a byte-reading capability and an address (R140), is total, and rejects nothing but an endless prefix chain, by
name (R141, R156).
-/

namespace Sys2Proof

/-! ### Operand tables: field values (R143) -/

/-- Table r: the field value of a register. -/
def Reg8.code : Reg8 → Nat
  | .b => 0 | .c => 1 | .d => 2 | .e => 3 | .h => 4 | .l => 5 | .a => 7

/-- Table r: the register of a field value, none for 6, the memory operand `(HL)`. -/
def Reg8.ofField : Nat → Option Reg8
  | 0 => some .b | 1 => some .c | 2 => some .d | 3 => some .e | 4 => some .h | 5 => some .l | 7 => some .a
  | _ => none

/-- Table r' of R218: the field value. -/
def XReg8.code : XReg8 → Nat
  | .b => 0 | .c => 1 | .d => 2 | .e => 3 | .xh => 4 | .xl => 5 | .a => 7

/-- Table r' of R218: the entry of a field value, none for 6. -/
def XReg8.ofField : Nat → Option XReg8
  | 0 => some .b | 1 => some .c | 2 => some .d | 3 => some .e | 4 => some .xh | 5 => some .xl | 7 => some .a
  | _ => none

/-- The field value of an index half (R152). -/
def Half.code : Half → Nat
  | .xh => 4 | .xl => 5

/-- Table rp: the field value. -/
def RP.code : RP → Nat
  | .bc => 0 | .de => 1 | .hl => 2 | .sp => 3

/-- Table rp: the pair of a field value. -/
def RP.ofField : Nat → RP
  | 0 => .bc | 1 => .de | 2 => .hl | _ => .sp

/-- Table rp2: the field value. -/
def RP2.code : RP2 → Nat
  | .bc => 0 | .de => 1 | .hl => 2 | .af => 3

/-- Table rp2: the pair of a field value. -/
def RP2.ofField : Nat → RP2
  | 0 => .bc | 1 => .de | 2 => .hl | _ => .af

/-- The operand pp of R372: the field value. -/
def XRP.code : XRP → Nat
  | .bc => 0 | .de => 1 | .self => 2 | .sp => 3

/-- The operand pp of R372: the pair of a field value. -/
def XRP.ofField : Nat → XRP
  | 0 => .bc | 1 => .de | 2 => .self | _ => .sp

/-- Table cc: the field value. -/
def Cond.code : Cond → Nat
  | .nz => 0 | .z => 1 | .nc => 2 | .c => 3 | .po => 4 | .pe => 5 | .p => 6 | .m => 7

/-- Table cc: the condition of a field value. -/
def Cond.ofField : Nat → Cond
  | 0 => .nz | 1 => .z | 2 => .nc | 3 => .c | 4 => .po | 5 => .pe | 6 => .p | _ => .m

/-- The y field of `JR cc,e`: the cc index plus 4 (R146). -/
def JrCond.code : JrCond → Nat
  | .nz => 4 | .z => 5 | .nc => 6 | .c => 7

/-- The condition of `JR cc,e` from its y field, 4 to 7 (R146). -/
def JrCond.ofField : Nat → JrCond
  | 4 => .nz | 5 => .z | 6 => .nc | _ => .c

/-- A condition of `JR cc,e` as an entry of table cc (R146). -/
def JrCond.cond : JrCond → Cond
  | .nz => .nz | .z => .z | .nc => .nc | .c => .c

/-- The prefix byte that selects an index register (R151). -/
def Idx.code : Idx → Byte
  | .ix => 0xDD | .iy => 0xFD

/-- The index register a byte selects as an index prefix byte, if it is one (R151). -/
def Idx.ofByte (b : Byte) : Option Idx :=
  if b = 0xDD then some .ix else if b = 0xFD then some .iy else none

/-- Table im (R143): the mode of a y field; R54 and D18 read "IM 0/1" as IM 0. -/
def imField (y : BitVec 3) : IMode :=
  match y.toNat with
  | 2 | 6 => .im1
  | 3 | 7 => .im2
  | _ => .im0

/-- The mode as a number. -/
def IMode.code : IMode → Nat
  | .im0 => 0 | .im1 => 1 | .im2 => 2

/-! ### The opcode maps

In each map `y`, `z`, `p` and `q` are the fields of R142. -/

/-- Table alu on a register: `alu[y] r[z]` (R144). -/
def aluR (y : Nat) (r : Reg8) : Instr :=
  match y with
  | 0 => .addAR r
  | 1 => .adcAR r
  | 2 => .subR r
  | 3 => .sbcAR r
  | 4 => .andR r
  | 5 => .xorR r
  | 6 => .orR r
  | _ => .cpR r

/-- Table alu on `(HL)` (R144). -/
def aluHlInd (y : Nat) : Instr :=
  match y with
  | 0 => .addAHlInd
  | 1 => .adcAHlInd
  | 2 => .subHlInd
  | 3 => .sbcAHlInd
  | 4 => .andHlInd
  | 5 => .xorHlInd
  | 6 => .orHlInd
  | _ => .cpHlInd

/-- Table alu on an immediate (R144). -/
def aluN (y : Nat) (n : Byte) : Instr :=
  match y with
  | 0 => .addAN n
  | 1 => .adcAN n
  | 2 => .subN n
  | 3 => .sbcAN n
  | 4 => .andN n
  | 5 => .xorN n
  | 6 => .orN n
  | _ => .cpN n

/-- Table alu on an index half (R152, case 2). -/
def aluHalf (y : Nat) (x : Idx) (p : Half) : Instr :=
  match y with
  | 0 => .addAHalf x p
  | 1 => .adcAHalf x p
  | 2 => .subHalf x p
  | 3 => .sbcAHalf x p
  | 4 => .andHalf x p
  | 5 => .xorHalf x p
  | 6 => .orHalf x p
  | _ => .cpHalf x p

/-- Table alu on an indexed byte (R152, case 1). -/
def aluIxd (y : Nat) (x : Idx) (d : Byte) : Instr :=
  match y with
  | 0 => .addAIxd x d
  | 1 => .adcAIxd x d
  | 2 => .subIxd x d
  | 3 => .sbcAIxd x d
  | 4 => .andIxd x d
  | 5 => .xorIxd x d
  | 6 => .orIxd x d
  | _ => .cpIxd x d

/-- Table rot on a register (R148). -/
def rotR (y : Nat) (r : Reg8) : Instr :=
  match y with
  | 0 => .rlcR r
  | 1 => .rrcR r
  | 2 => .rlR r
  | 3 => .rrR r
  | 4 => .slaR r
  | 5 => .sraR r
  | 6 => .sllR r
  | _ => .srlR r

/-- Table rot on `(HL)` (R148). -/
def rotHlInd (y : Nat) : Instr :=
  match y with
  | 0 => .rlcHlInd
  | 1 => .rrcHlInd
  | 2 => .rlHlInd
  | 3 => .rrHlInd
  | 4 => .slaHlInd
  | 5 => .sraHlInd
  | 6 => .sllHlInd
  | _ => .srlHlInd

/-- Table rot on an indexed byte with a register copy (R154). -/
def rotIxdR (y : Nat) (x : Idx) (d : Byte) (r : Reg8) : Instr :=
  match y with
  | 0 => .rlcIxdR x d r
  | 1 => .rrcIxdR x d r
  | 2 => .rlIxdR x d r
  | 3 => .rrIxdR x d r
  | 4 => .slaIxdR x d r
  | 5 => .sraIxdR x d r
  | 6 => .sllIxdR x d r
  | _ => .srlIxdR x d r

/-- Table rot on an indexed byte (R154). -/
def rotIxd (y : Nat) (x : Idx) (d : Byte) : Instr :=
  match y with
  | 0 => .rlcIxd x d
  | 1 => .rrcIxd x d
  | 2 => .rlIxd x d
  | 3 => .rrIxd x d
  | 4 => .slaIxd x d
  | 5 => .sraIxd x d
  | 6 => .sllIxd x d
  | _ => .srlIxd x d

/-- The unprefixed map, x = 0 (R144). `n` is the byte after the opcode byte, `nn` the two bytes after it. -/
def uMap0 (y z : Nat) (n : Byte) (nn : Word) : Instr :=
  let p := y / 2
  let q := y % 2
  match z with
  | 0 =>
    match y with
    | 0 => .nop
    | 1 => .exAfAf
    | 2 => .djnz n
    | 3 => .jr n
    | _ => .jrCc (JrCond.ofField y) n
  | 1 => if q = 0 then .ldDdNn (RP.ofField p) nn else .addHlSs (RP.ofField p)
  | 2 =>
    match y with
    | 0 => .ldBcIndA
    | 1 => .ldABcInd
    | 2 => .ldDeIndA
    | 3 => .ldADeInd
    | 4 => .ldNnIndHl nn
    | 5 => .ldHlNnInd nn
    | 6 => .ldNnIndA nn
    | _ => .ldANnInd nn
  | 3 => if q = 0 then .incSs (RP.ofField p) else .decSs (RP.ofField p)
  | 4 => match Reg8.ofField y with | some r => .incR r | none => .incHlInd
  | 5 => match Reg8.ofField y with | some r => .decR r | none => .decHlInd
  | 6 => match Reg8.ofField y with | some r => .ldRN r n | none => .ldHlIndN n
  | _ =>
    match y with
    | 0 => .rlca
    | 1 => .rrca
    | 2 => .rla
    | 3 => .rra
    | 4 => .daa
    | 5 => .cpl
    | 6 => .scf
    | _ => .ccf

/-- The unprefixed map, x = 3 (R144). The bytes CB, DD, ED and FD are the prefix rows. -/
def uMap3 (y z : Nat) (n : Byte) (nn : Word) : Instr :=
  let p := y / 2
  let q := y % 2
  match z with
  | 0 => .retCc (Cond.ofField y)
  | 1 =>
    if q = 0 then .popQq (RP2.ofField p)
    else match p with
      | 0 => .ret
      | 1 => .exx
      | 2 => .jpHl
      | _ => .ldSpHl
  | 2 => .jpCcNn (Cond.ofField y) nn
  | 3 =>
    match y with
    | 0 => .jpNn nn
    | 1 => .prefixCB
    | 2 => .outNA n
    | 3 => .inAN n
    | 4 => .exSpHl
    | 5 => .exDeHl
    | 6 => .di
    | _ => .ei
  | 4 => .callCcNn (Cond.ofField y) nn
  | 5 =>
    if q = 0 then .pushQq (RP2.ofField p)
    else match p with
      | 0 => .callNn nn
      | 1 => .prefixDD
      | 2 => .prefixED
      | _ => .prefixFD
  | 6 => aluN y n
  | _ => .rst (BitVec.ofNat 3 y)

/-- The unprefixed map (R144): `op` the opcode byte, `n` and `n2` the two bytes after it. -/
def uMap (op n n2 : Byte) : Instr :=
  let y := fieldY op
  let z := fieldZ op
  let nn := join n2 n
  match fieldX op with
  | 0 => uMap0 y z n nn
  | 1 =>
    match Reg8.ofField y, Reg8.ofField z with
    | some ry, some rz => .ldRR ry rz
    | some ry, none => .ldRHlInd ry
    | none, some rz => .ldHlIndR rz
    | none, none => .halt
  | 2 => match Reg8.ofField z with | some r => aluR y r | none => aluHlInd y
  | _ => uMap3 y z n nn

/-- The CB map (R148). -/
def cbMap (op : Byte) : Instr :=
  let y := fieldY op
  let b := BitVec.ofNat 3 y
  match fieldX op, Reg8.ofField (fieldZ op) with
  | 0, some r => rotR y r
  | 0, none => rotHlInd y
  | 1, some r => .bitBR b r
  | 1, none => .bitBHlInd b
  | 2, some r => .resBR b r
  | 2, none => .resBHlInd b
  | _, some r => .setBR b r
  | _, none => .setBHlInd b

/-- The ED map, x = 1 (R149); ED 77 and ED 7F are holes (R150). -/
def edMap1 (op : Byte) (y z : Nat) (nn : Word) : Instr :=
  let p := y / 2
  let q := y % 2
  let b := BitVec.ofNat 3 y
  match z with
  | 0 => match Reg8.ofField y with | some r => .inRC r | none => .inFC
  | 1 => match Reg8.ofField y with | some r => .outCR r | none => .outC0
  | 2 => if q = 0 then .sbcHlSs (RP.ofField p) else .adcHlSs (RP.ofField p)
  | 3 => if q = 0 then .ldNnIndDd (RP.ofField p) nn else .ldDdNnInd (RP.ofField p) nn
  | 4 => match y with | 0 => .neg | _ => .negMirror b
  | 5 => match y with | 0 => .retn | 1 => .reti | _ => .retnMirror b
  | 6 => match y with | 0 => .im0 | 2 => .im1 | 3 => .im2 | _ => .imMirror b
  | _ =>
    match y with
    | 0 => .ldIA
    | 1 => .ldRfshA
    | 2 => .ldAI
    | 3 => .ldARfsh
    | 4 => .rrd
    | 5 => .rld
    | _ => .nopEdHole op

/-- The block instructions of the ED map, x = 2, y from 4 and z up to 3 (R149); the rest of x = 2 is holes (R150). -/
def edMap2 (op : Byte) (y z : Nat) : Instr :=
  match y, z with
  | 4, 0 => .ldi
  | 4, 1 => .cpi
  | 4, 2 => .ini
  | 4, 3 => .outi
  | 5, 0 => .ldd
  | 5, 1 => .cpd
  | 5, 2 => .ind
  | 5, 3 => .outd
  | 6, 0 => .ldir
  | 6, 1 => .cpir
  | 6, 2 => .inir
  | 6, 3 => .otir
  | 7, 0 => .lddr
  | 7, 1 => .cpdr
  | 7, 2 => .indr
  | 7, 3 => .otdr
  | _, _ => .nopEdHole op

/-- The ED map (R149, R150): `op` the byte after ED, `n` and `n2` the two bytes after it. -/
def edMap (op n n2 : Byte) : Instr :=
  match fieldX op with
  | 1 => edMap1 op (fieldY op) (fieldZ op) (join n2 n)
  | 2 => edMap2 op (fieldY op) (fieldZ op)
  | _ => .nopEdHole op

/-- The indexed forms, x = 0 (R151, R152): none where the opcode byte is not indexed. `n` and `n2` are the two bytes
after the opcode byte; in a form with a displacement `n` is d and `n2` the immediate. -/
def xdMap0 (x : Idx) (y z : Nat) (n n2 : Byte) : Option Instr :=
  let nn := join n2 n
  match z, y with
  | 1, 1 => some (.addIxPp x .bc)
  | 1, 3 => some (.addIxPp x .de)
  | 1, 4 => some (.ldIxNn x nn)
  | 1, 5 => some (.addIxPp x .self)
  | 1, 7 => some (.addIxPp x .sp)
  | 2, 4 => some (.ldNnIndIx x nn)
  | 2, 5 => some (.ldIxNnInd x nn)
  | 3, 4 => some (.incIx x)
  | 3, 5 => some (.decIx x)
  | 4, 4 => some (.incHalf x .xh)
  | 4, 5 => some (.incHalf x .xl)
  | 4, 6 => some (.incIxd x n)
  | 5, 4 => some (.decHalf x .xh)
  | 5, 5 => some (.decHalf x .xl)
  | 5, 6 => some (.decIxd x n)
  | 6, 4 => some (.ldHalfN x .xh n)
  | 6, 5 => some (.ldHalfN x .xl n)
  | 6, 6 => some (.ldIxdN x n n2)
  | _, _ => none

/-- The indexed forms, x = 1 (R151, R152): the `LD` group but HALT. -/
def xdMap1 (x : Idx) (y z : Nat) (n : Byte) : Option Instr :=
  match Reg8.ofField y, Reg8.ofField z with
  | some ry, none => some (.ldRIxd x ry n)
  | none, some rz => some (.ldIxdR x n rz)
  | none, none => none
  | some _, some _ =>
    match XReg8.ofField y, XReg8.ofField z with
    | some hy, some hz => if hy.isHalf || hz.isHalf then some (.ldHalves x hy hz) else none
    | _, _ => none

/-- The indexed forms, x = 3, and the byte CB, which begins a DDCB or FDCB form (R151, R154). -/
def xdMap3 (x : Idx) (y z : Nat) : Option Instr :=
  match z, y with
  | 1, 4 => some (.popIx x)
  | 1, 5 => some (.jpIx x)
  | 1, 7 => some (.ldSpIx x)
  | 3, 1 => some (.prefixDDCB x)
  | 3, 4 => some (.exSpIx x)
  | 5, 4 => some (.pushIx x)
  | _, _ => none

/-- The DD and FD map (R151, R152) of the byte after the last index prefix byte: none where it is not indexed, so that
the prefix byte is wasted (R153). -/
def xdMap (x : Idx) (op n n2 : Byte) : Option Instr :=
  let y := fieldY op
  let z := fieldZ op
  match fieldX op with
  | 0 => xdMap0 x y z n n2
  | 1 => xdMap1 x y z n
  | 2 =>
    match z with
    | 4 => some (aluHalf y x .xh)
    | 5 => some (aluHalf y x .xl)
    | 6 => some (aluIxd y x n)
    | _ => none
  | _ => xdMap3 x y z

/-- The DDCB and FDCB map (R154): `d` the third byte, `op` the fourth. -/
def xdcbMap (x : Idx) (d op : Byte) : Instr :=
  let y := fieldY op
  let b := BitVec.ofNat 3 y
  match fieldX op, Reg8.ofField (fieldZ op) with
  | 0, some r => rotIxdR y x d r
  | 0, none => rotIxd y x d
  | 1, some r => .bitBIxdZ x b d r
  | 1, none => .bitBIxd x b d
  | 2, some r => .resBIxdR x b d r
  | 2, none => .resBIxd x b d
  | _, some r => .setBIxdR x b d r
  | _, none => .setBIxd x b d

/-! ### The decoder -/

/-- A decoded instruction (R140): the form with its operands, and the wasted prefix bytes in fetch order (R153). The
record's other fields are functions of these two, below. -/
structure Decoded where
  wasted : List Idx
  instr : Instr
  deriving DecidableEq, Repr

/-- What decode answers: an instruction, or the prefix chain that never ends (R156). -/
inductive DecodeResult where
  | ok (d : Decoded)
  | prefixHang
  deriving DecidableEq, Repr

/-- Decode at an address where no index prefix byte is pending: an unprefixed, CB or ED form (R155, step 4). -/
def decodePlain (rd : Word → Byte) (p : Word) : Instr :=
  match uMap (rd p) (rd (p + 1)) (rd (p + 2)) with
  | .prefixCB => cbMap (rd (p + 1))
  | .prefixED => edMap (rd (p + 1)) (rd (p + 2)) (rd (p + 3))
  | i => i

/-- Decode at an address that holds no index prefix byte, after the index prefix bytes `ps`, last one first (R155,
steps 2 to 4). -/
def decodeAfter (rd : Word → Byte) (p : Word) (ps : List Idx) : Decoded :=
  match ps with
  | [] => ⟨[], decodePlain rd p⟩
  | x :: earlier =>
    match xdMap x (rd p) (rd (p + 1)) (rd (p + 2)) with
    | some (.prefixDDCB x) => ⟨earlier.reverse, xdcbMap x (rd (p + 1)) (rd (p + 2))⟩
    | some i => ⟨earlier.reverse, i⟩
    | none => ⟨ps.reverse, decodePlain rd p⟩

/-- Read index prefix bytes from address `p` on, at most `fuel` of them (R155, step 1; R156). -/
def decodeScan (rd : Word → Byte) : Nat → Word → List Idx → DecodeResult
  | 0, _, _ => .prefixHang
  | fuel + 1, p, ps =>
    match Idx.ofByte (rd p) with
    | some x => decodeScan rd fuel (p + 1) (x :: ps)
    | none => .ok (decodeAfter rd p ps)

/-- The decoder (R140, R141, R155): one instruction read at `pc` through `rd`. -/
def decodeFrom (rd : Word → Byte) (pc : Word) : DecodeResult := decodeScan rd Config.prefixLimit pc []

/-! ### The encoder -/

/-- The bytes of an instruction, in fetch order, from the encoding line of its rule. -/
def encode : Instr → List Byte
  | .prefixCB => [0xCB]
  | .prefixDD => [0xDD]
  | .prefixED => [0xED]
  | .prefixFD => [0xFD]
  | .prefixDDCB x => [x.code, 0xCB]
  | .nop => [0x00]
  | .ldDdNn dd nn => [opq 0 dd.code 0 1, lo nn, hi nn]
  | .ldBcIndA => [0x02]
  | .incSs ss => [opq 0 ss.code 0 3]
  | .incR r => [opc 0 r.code 4]
  | .decR r => [opc 0 r.code 5]
  | .ldRN r n => [opc 0 r.code 6, n]
  | .rlca => [0x07]
  | .exAfAf => [0x08]
  | .addHlSs ss => [opq 0 ss.code 1 1]
  | .ldABcInd => [0x0A]
  | .decSs ss => [opq 0 ss.code 1 3]
  | .rrca => [0x0F]
  | .djnz e => [0x10, e]
  | .ldDeIndA => [0x12]
  | .rla => [0x17]
  | .jr e => [0x18, e]
  | .ldADeInd => [0x1A]
  | .rra => [0x1F]
  | .jrCc cc e => [opc 0 cc.code 0, e]
  | .ldNnIndHl nn => [0x22, lo nn, hi nn]
  | .daa => [0x27]
  | .ldHlNnInd nn => [0x2A, lo nn, hi nn]
  | .cpl => [0x2F]
  | .ldNnIndA nn => [0x32, lo nn, hi nn]
  | .incHlInd => [0x34]
  | .decHlInd => [0x35]
  | .ldHlIndN n => [0x36, n]
  | .scf => [0x37]
  | .ldANnInd nn => [0x3A, lo nn, hi nn]
  | .ccf => [0x3F]
  | .ldRR y z => [opc 1 y.code z.code]
  | .ldRHlInd r => [opc 1 r.code 6]
  | .ldHlIndR r => [opc 1 6 r.code]
  | .halt => [0x76]
  | .addAR r => [opc 2 0 r.code]
  | .addAHlInd => [opc 2 0 6]
  | .adcAR r => [opc 2 1 r.code]
  | .adcAHlInd => [opc 2 1 6]
  | .subR r => [opc 2 2 r.code]
  | .subHlInd => [opc 2 2 6]
  | .sbcAR r => [opc 2 3 r.code]
  | .sbcAHlInd => [opc 2 3 6]
  | .andR r => [opc 2 4 r.code]
  | .andHlInd => [opc 2 4 6]
  | .xorR r => [opc 2 5 r.code]
  | .xorHlInd => [opc 2 5 6]
  | .orR r => [opc 2 6 r.code]
  | .orHlInd => [opc 2 6 6]
  | .cpR r => [opc 2 7 r.code]
  | .cpHlInd => [opc 2 7 6]
  | .retCc cc => [opc 3 cc.code 0]
  | .popQq qq => [opq 3 qq.code 0 1]
  | .jpCcNn cc nn => [opc 3 cc.code 2, lo nn, hi nn]
  | .jpNn nn => [0xC3, lo nn, hi nn]
  | .callCcNn cc nn => [opc 3 cc.code 4, lo nn, hi nn]
  | .pushQq qq => [opq 3 qq.code 0 5]
  | .addAN n => [opc 3 0 6, n]
  | .rst t => [opc 3 t.toNat 7]
  | .ret => [0xC9]
  | .callNn nn => [0xCD, lo nn, hi nn]
  | .adcAN n => [opc 3 1 6, n]
  | .outNA n => [0xD3, n]
  | .subN n => [opc 3 2 6, n]
  | .exx => [0xD9]
  | .inAN n => [0xDB, n]
  | .sbcAN n => [opc 3 3 6, n]
  | .exSpHl => [0xE3]
  | .andN n => [opc 3 4 6, n]
  | .jpHl => [0xE9]
  | .exDeHl => [0xEB]
  | .xorN n => [opc 3 5 6, n]
  | .di => [0xF3]
  | .orN n => [opc 3 6 6, n]
  | .ldSpHl => [0xF9]
  | .ei => [0xFB]
  | .cpN n => [opc 3 7 6, n]
  | .rlcR r => [0xCB, opc 0 0 r.code]
  | .rlcHlInd => [0xCB, opc 0 0 6]
  | .rrcR r => [0xCB, opc 0 1 r.code]
  | .rrcHlInd => [0xCB, opc 0 1 6]
  | .rlR r => [0xCB, opc 0 2 r.code]
  | .rlHlInd => [0xCB, opc 0 2 6]
  | .rrR r => [0xCB, opc 0 3 r.code]
  | .rrHlInd => [0xCB, opc 0 3 6]
  | .slaR r => [0xCB, opc 0 4 r.code]
  | .slaHlInd => [0xCB, opc 0 4 6]
  | .sraR r => [0xCB, opc 0 5 r.code]
  | .sraHlInd => [0xCB, opc 0 5 6]
  | .sllR r => [0xCB, opc 0 6 r.code]
  | .sllHlInd => [0xCB, opc 0 6 6]
  | .srlR r => [0xCB, opc 0 7 r.code]
  | .srlHlInd => [0xCB, opc 0 7 6]
  | .bitBR b r => [0xCB, opc 1 b.toNat r.code]
  | .bitBHlInd b => [0xCB, opc 1 b.toNat 6]
  | .resBR b r => [0xCB, opc 2 b.toNat r.code]
  | .resBHlInd b => [0xCB, opc 2 b.toNat 6]
  | .setBR b r => [0xCB, opc 3 b.toNat r.code]
  | .setBHlInd b => [0xCB, opc 3 b.toNat 6]
  | .nopEdHole op => [0xED, op]
  | .inRC r => [0xED, opc 1 r.code 0]
  | .outCR r => [0xED, opc 1 r.code 1]
  | .sbcHlSs ss => [0xED, opq 1 ss.code 0 2]
  | .ldNnIndDd dd nn => [0xED, opq 1 dd.code 0 3, lo nn, hi nn]
  | .neg => [0xED, 0x44]
  | .retn => [0xED, 0x45]
  | .im0 => [0xED, 0x46]
  | .ldIA => [0xED, 0x47]
  | .adcHlSs ss => [0xED, opq 1 ss.code 1 2]
  | .ldDdNnInd dd nn => [0xED, opq 1 dd.code 1 3, lo nn, hi nn]
  | .negMirror y => [0xED, opc 1 y.toNat 4]
  | .reti => [0xED, 0x4D]
  | .imMirror y => [0xED, opc 1 y.toNat 6]
  | .ldRfshA => [0xED, 0x4F]
  | .retnMirror y => [0xED, opc 1 y.toNat 5]
  | .im1 => [0xED, 0x56]
  | .ldAI => [0xED, 0x57]
  | .im2 => [0xED, 0x5E]
  | .ldARfsh => [0xED, 0x5F]
  | .rrd => [0xED, 0x67]
  | .rld => [0xED, 0x6F]
  | .inFC => [0xED, 0x70]
  | .outC0 => [0xED, 0x71]
  | .ldi => [0xED, opc 2 4 0]
  | .cpi => [0xED, opc 2 4 1]
  | .ini => [0xED, opc 2 4 2]
  | .outi => [0xED, opc 2 4 3]
  | .ldd => [0xED, opc 2 5 0]
  | .cpd => [0xED, opc 2 5 1]
  | .ind => [0xED, opc 2 5 2]
  | .outd => [0xED, opc 2 5 3]
  | .ldir => [0xED, opc 2 6 0]
  | .cpir => [0xED, opc 2 6 1]
  | .inir => [0xED, opc 2 6 2]
  | .otir => [0xED, opc 2 6 3]
  | .lddr => [0xED, opc 2 7 0]
  | .cpdr => [0xED, opc 2 7 1]
  | .indr => [0xED, opc 2 7 2]
  | .otdr => [0xED, opc 2 7 3]
  | .addIxPp x pp => [x.code, opq 0 pp.code 1 1]
  | .ldIxNn x nn => [x.code, 0x21, lo nn, hi nn]
  | .ldNnIndIx x nn => [x.code, 0x22, lo nn, hi nn]
  | .incIx x => [x.code, 0x23]
  | .incHalf x p => [x.code, opc 0 p.code 4]
  | .decHalf x p => [x.code, opc 0 p.code 5]
  | .ldHalfN x p n => [x.code, opc 0 p.code 6, n]
  | .ldIxNnInd x nn => [x.code, 0x2A, lo nn, hi nn]
  | .decIx x => [x.code, 0x2B]
  | .incIxd x d => [x.code, 0x34, d]
  | .decIxd x d => [x.code, 0x35, d]
  | .ldIxdN x d n => [x.code, 0x36, d, n]
  | .ldHalves x y z => [x.code, opc 1 y.code z.code]
  | .ldRIxd x r d => [x.code, opc 1 r.code 6, d]
  | .ldIxdR x d r => [x.code, opc 1 6 r.code, d]
  | .addAHalf x p => [x.code, opc 2 0 p.code]
  | .addAIxd x d => [x.code, opc 2 0 6, d]
  | .adcAHalf x p => [x.code, opc 2 1 p.code]
  | .adcAIxd x d => [x.code, opc 2 1 6, d]
  | .subHalf x p => [x.code, opc 2 2 p.code]
  | .subIxd x d => [x.code, opc 2 2 6, d]
  | .sbcAHalf x p => [x.code, opc 2 3 p.code]
  | .sbcAIxd x d => [x.code, opc 2 3 6, d]
  | .andHalf x p => [x.code, opc 2 4 p.code]
  | .andIxd x d => [x.code, opc 2 4 6, d]
  | .xorHalf x p => [x.code, opc 2 5 p.code]
  | .xorIxd x d => [x.code, opc 2 5 6, d]
  | .orHalf x p => [x.code, opc 2 6 p.code]
  | .orIxd x d => [x.code, opc 2 6 6, d]
  | .cpHalf x p => [x.code, opc 2 7 p.code]
  | .cpIxd x d => [x.code, opc 2 7 6, d]
  | .popIx x => [x.code, 0xE1]
  | .exSpIx x => [x.code, 0xE3]
  | .pushIx x => [x.code, 0xE5]
  | .jpIx x => [x.code, 0xE9]
  | .ldSpIx x => [x.code, 0xF9]
  | .rlcIxdR x d r => [x.code, 0xCB, d, opc 0 0 r.code]
  | .rlcIxd x d => [x.code, 0xCB, d, opc 0 0 6]
  | .rrcIxdR x d r => [x.code, 0xCB, d, opc 0 1 r.code]
  | .rrcIxd x d => [x.code, 0xCB, d, opc 0 1 6]
  | .rlIxdR x d r => [x.code, 0xCB, d, opc 0 2 r.code]
  | .rlIxd x d => [x.code, 0xCB, d, opc 0 2 6]
  | .rrIxdR x d r => [x.code, 0xCB, d, opc 0 3 r.code]
  | .rrIxd x d => [x.code, 0xCB, d, opc 0 3 6]
  | .slaIxdR x d r => [x.code, 0xCB, d, opc 0 4 r.code]
  | .slaIxd x d => [x.code, 0xCB, d, opc 0 4 6]
  | .sraIxdR x d r => [x.code, 0xCB, d, opc 0 5 r.code]
  | .sraIxd x d => [x.code, 0xCB, d, opc 0 5 6]
  | .sllIxdR x d r => [x.code, 0xCB, d, opc 0 6 r.code]
  | .sllIxd x d => [x.code, 0xCB, d, opc 0 6 6]
  | .srlIxdR x d r => [x.code, 0xCB, d, opc 0 7 r.code]
  | .srlIxd x d => [x.code, 0xCB, d, opc 0 7 6]
  | .bitBIxdZ x b d z => [x.code, 0xCB, d, opc 1 b.toNat z.code]
  | .bitBIxd x b d => [x.code, 0xCB, d, opc 1 b.toNat 6]
  | .resBIxdR x b d r => [x.code, 0xCB, d, opc 2 b.toNat r.code]
  | .resBIxd x b d => [x.code, 0xCB, d, opc 2 b.toNat 6]
  | .setBIxdR x b d r => [x.code, 0xCB, d, opc 3 b.toNat r.code]
  | .setBIxd x b d => [x.code, 0xCB, d, opc 3 b.toNat 6]

/-- The bytes of a decoded instruction: the wasted prefix bytes, then the instruction's own (R153). -/
def Decoded.encode (d : Decoded) : List Byte := d.wasted.map Idx.code ++ Sys2Proof.encode d.instr

/-! ### The columns of the opcode table (R164) -/

/-- A row's columns: the form tag, the length without wasted prefixes, the T-states with no condition holding and with
one holding (R157), the M1 cycles (R52), and whether the form is documented (R160). -/
structure FormInfo where
  form : String
  length : Nat
  t : Nat
  tTaken : Nat
  m1 : Nat
  documented : Bool
  deriving DecidableEq, Repr

/-- The row of an instruction. Where the table gives no `t_taken`, `tTaken` is `t`. The prefix rows have no length, T or
M1 in the table: theirs are log entry 7's. -/
def Instr.info : Instr → FormInfo
  | .prefixCB => ⟨"prefix CB", 1, 4, 4, 1, true⟩
  | .prefixDD => ⟨"prefix DD", 1, 4, 4, 1, true⟩
  | .prefixED => ⟨"prefix ED", 1, 4, 4, 1, true⟩
  | .prefixFD => ⟨"prefix FD", 1, 4, 4, 1, true⟩
  | .prefixDDCB _ => ⟨"prefix DDCB/FDCB", 2, 8, 8, 2, true⟩
  | .nop => ⟨"NOP", 1, 4, 4, 1, true⟩
  | .ldDdNn _ _ => ⟨"LD dd,nn", 3, 10, 10, 1, true⟩
  | .ldBcIndA => ⟨"LD (BC),A", 1, 7, 7, 1, true⟩
  | .incSs _ => ⟨"INC ss", 1, 6, 6, 1, true⟩
  | .incR _ => ⟨"INC r", 1, 4, 4, 1, true⟩
  | .decR _ => ⟨"DEC r", 1, 4, 4, 1, true⟩
  | .ldRN _ _ => ⟨"LD r,n", 2, 7, 7, 1, true⟩
  | .rlca => ⟨"RLCA", 1, 4, 4, 1, true⟩
  | .exAfAf => ⟨"EX AF,AF'", 1, 4, 4, 1, true⟩
  | .addHlSs _ => ⟨"ADD HL,ss", 1, 11, 11, 1, true⟩
  | .ldABcInd => ⟨"LD A,(BC)", 1, 7, 7, 1, true⟩
  | .decSs _ => ⟨"DEC ss", 1, 6, 6, 1, true⟩
  | .rrca => ⟨"RRCA", 1, 4, 4, 1, true⟩
  | .djnz _ => ⟨"DJNZ e", 2, 8, 13, 1, true⟩
  | .ldDeIndA => ⟨"LD (DE),A", 1, 7, 7, 1, true⟩
  | .rla => ⟨"RLA", 1, 4, 4, 1, true⟩
  | .jr _ => ⟨"JR e", 2, 12, 12, 1, true⟩
  | .ldADeInd => ⟨"LD A,(DE)", 1, 7, 7, 1, true⟩
  | .rra => ⟨"RRA", 1, 4, 4, 1, true⟩
  | .jrCc _ _ => ⟨"JR cc,e", 2, 7, 12, 1, true⟩
  | .ldNnIndHl _ => ⟨"LD (nn),HL", 3, 16, 16, 1, true⟩
  | .daa => ⟨"DAA", 1, 4, 4, 1, true⟩
  | .ldHlNnInd _ => ⟨"LD HL,(nn)", 3, 16, 16, 1, true⟩
  | .cpl => ⟨"CPL", 1, 4, 4, 1, true⟩
  | .ldNnIndA _ => ⟨"LD (nn),A", 3, 13, 13, 1, true⟩
  | .incHlInd => ⟨"INC (HL)", 1, 11, 11, 1, true⟩
  | .decHlInd => ⟨"DEC (HL)", 1, 11, 11, 1, true⟩
  | .ldHlIndN _ => ⟨"LD (HL),n", 2, 10, 10, 1, true⟩
  | .scf => ⟨"SCF", 1, 4, 4, 1, true⟩
  | .ldANnInd _ => ⟨"LD A,(nn)", 3, 13, 13, 1, true⟩
  | .ccf => ⟨"CCF", 1, 4, 4, 1, true⟩
  | .ldRR _ _ => ⟨"LD r,r'", 1, 4, 4, 1, true⟩
  | .ldRHlInd _ => ⟨"LD r,(HL)", 1, 7, 7, 1, true⟩
  | .ldHlIndR _ => ⟨"LD (HL),r", 1, 7, 7, 1, true⟩
  | .halt => ⟨"HALT", 1, 4, 4, 1, true⟩
  | .addAR _ => ⟨"ADD A,r", 1, 4, 4, 1, true⟩
  | .addAHlInd => ⟨"ADD A,(HL)", 1, 7, 7, 1, true⟩
  | .adcAR _ => ⟨"ADC A,r", 1, 4, 4, 1, true⟩
  | .adcAHlInd => ⟨"ADC A,(HL)", 1, 7, 7, 1, true⟩
  | .subR _ => ⟨"SUB r", 1, 4, 4, 1, true⟩
  | .subHlInd => ⟨"SUB (HL)", 1, 7, 7, 1, true⟩
  | .sbcAR _ => ⟨"SBC A,r", 1, 4, 4, 1, true⟩
  | .sbcAHlInd => ⟨"SBC A,(HL)", 1, 7, 7, 1, true⟩
  | .andR _ => ⟨"AND r", 1, 4, 4, 1, true⟩
  | .andHlInd => ⟨"AND (HL)", 1, 7, 7, 1, true⟩
  | .xorR _ => ⟨"XOR r", 1, 4, 4, 1, true⟩
  | .xorHlInd => ⟨"XOR (HL)", 1, 7, 7, 1, true⟩
  | .orR _ => ⟨"OR r", 1, 4, 4, 1, true⟩
  | .orHlInd => ⟨"OR (HL)", 1, 7, 7, 1, true⟩
  | .cpR _ => ⟨"CP r", 1, 4, 4, 1, true⟩
  | .cpHlInd => ⟨"CP (HL)", 1, 7, 7, 1, true⟩
  | .retCc _ => ⟨"RET cc", 1, 5, 11, 1, true⟩
  | .popQq _ => ⟨"POP qq", 1, 10, 10, 1, true⟩
  | .jpCcNn _ _ => ⟨"JP cc,nn", 3, 10, 10, 1, true⟩
  | .jpNn _ => ⟨"JP nn", 3, 10, 10, 1, true⟩
  | .callCcNn _ _ => ⟨"CALL cc,nn", 3, 10, 17, 1, true⟩
  | .pushQq _ => ⟨"PUSH qq", 1, 11, 11, 1, true⟩
  | .addAN _ => ⟨"ADD A,n", 2, 7, 7, 1, true⟩
  | .rst _ => ⟨"RST p", 1, 11, 11, 1, true⟩
  | .ret => ⟨"RET", 1, 10, 10, 1, true⟩
  | .callNn _ => ⟨"CALL nn", 3, 17, 17, 1, true⟩
  | .adcAN _ => ⟨"ADC A,n", 2, 7, 7, 1, true⟩
  | .outNA _ => ⟨"OUT (n),A", 2, 11, 11, 1, true⟩
  | .subN _ => ⟨"SUB n", 2, 7, 7, 1, true⟩
  | .exx => ⟨"EXX", 1, 4, 4, 1, true⟩
  | .inAN _ => ⟨"IN A,(n)", 2, 11, 11, 1, true⟩
  | .sbcAN _ => ⟨"SBC A,n", 2, 7, 7, 1, true⟩
  | .exSpHl => ⟨"EX (SP),HL", 1, 19, 19, 1, true⟩
  | .andN _ => ⟨"AND n", 2, 7, 7, 1, true⟩
  | .jpHl => ⟨"JP (HL)", 1, 4, 4, 1, true⟩
  | .exDeHl => ⟨"EX DE,HL", 1, 4, 4, 1, true⟩
  | .xorN _ => ⟨"XOR n", 2, 7, 7, 1, true⟩
  | .di => ⟨"DI", 1, 4, 4, 1, true⟩
  | .orN _ => ⟨"OR n", 2, 7, 7, 1, true⟩
  | .ldSpHl => ⟨"LD SP,HL", 1, 6, 6, 1, true⟩
  | .ei => ⟨"EI", 1, 4, 4, 1, true⟩
  | .cpN _ => ⟨"CP n", 2, 7, 7, 1, true⟩
  | .rlcR _ => ⟨"RLC r", 2, 8, 8, 2, true⟩
  | .rlcHlInd => ⟨"RLC (HL)", 2, 15, 15, 2, true⟩
  | .rrcR _ => ⟨"RRC r", 2, 8, 8, 2, true⟩
  | .rrcHlInd => ⟨"RRC (HL)", 2, 15, 15, 2, true⟩
  | .rlR _ => ⟨"RL r", 2, 8, 8, 2, true⟩
  | .rlHlInd => ⟨"RL (HL)", 2, 15, 15, 2, true⟩
  | .rrR _ => ⟨"RR r", 2, 8, 8, 2, true⟩
  | .rrHlInd => ⟨"RR (HL)", 2, 15, 15, 2, true⟩
  | .slaR _ => ⟨"SLA r", 2, 8, 8, 2, true⟩
  | .slaHlInd => ⟨"SLA (HL)", 2, 15, 15, 2, true⟩
  | .sraR _ => ⟨"SRA r", 2, 8, 8, 2, true⟩
  | .sraHlInd => ⟨"SRA (HL)", 2, 15, 15, 2, true⟩
  | .sllR _ => ⟨"SLL r", 2, 8, 8, 2, false⟩
  | .sllHlInd => ⟨"SLL (HL)", 2, 15, 15, 2, false⟩
  | .srlR _ => ⟨"SRL r", 2, 8, 8, 2, true⟩
  | .srlHlInd => ⟨"SRL (HL)", 2, 15, 15, 2, true⟩
  | .bitBR _ _ => ⟨"BIT b,r", 2, 8, 8, 2, true⟩
  | .bitBHlInd _ => ⟨"BIT b,(HL)", 2, 12, 12, 2, true⟩
  | .resBR _ _ => ⟨"RES b,r", 2, 8, 8, 2, true⟩
  | .resBHlInd _ => ⟨"RES b,(HL)", 2, 15, 15, 2, true⟩
  | .setBR _ _ => ⟨"SET b,r", 2, 8, 8, 2, true⟩
  | .setBHlInd _ => ⟨"SET b,(HL)", 2, 15, 15, 2, true⟩
  | .nopEdHole _ => ⟨"NOP (ED hole)", 2, 8, 8, 2, true⟩
  | .inRC _ => ⟨"IN r,(C)", 2, 12, 12, 2, true⟩
  | .outCR _ => ⟨"OUT (C),r", 2, 12, 12, 2, true⟩
  | .sbcHlSs _ => ⟨"SBC HL,ss", 2, 15, 15, 2, true⟩
  | .ldNnIndDd _ _ => ⟨"LD (nn),dd", 4, 20, 20, 2, true⟩
  | .neg => ⟨"NEG", 2, 8, 8, 2, true⟩
  | .retn => ⟨"RETN", 2, 14, 14, 2, true⟩
  | .im0 => ⟨"IM 0", 2, 8, 8, 2, true⟩
  | .ldIA => ⟨"LD I,A", 2, 9, 9, 2, true⟩
  | .adcHlSs _ => ⟨"ADC HL,ss", 2, 15, 15, 2, true⟩
  | .ldDdNnInd _ _ => ⟨"LD dd,(nn)", 4, 20, 20, 2, true⟩
  | .negMirror _ => ⟨"NEG (mirror)", 2, 8, 8, 2, false⟩
  | .reti => ⟨"RETI", 2, 14, 14, 2, true⟩
  | .imMirror _ => ⟨"IM (mirror)", 2, 8, 8, 2, false⟩
  | .ldRfshA => ⟨"LD R,A", 2, 9, 9, 2, true⟩
  | .retnMirror _ => ⟨"RETN (mirror)", 2, 14, 14, 2, false⟩
  | .im1 => ⟨"IM 1", 2, 8, 8, 2, true⟩
  | .ldAI => ⟨"LD A,I", 2, 9, 9, 2, true⟩
  | .im2 => ⟨"IM 2", 2, 8, 8, 2, true⟩
  | .ldARfsh => ⟨"LD A,R", 2, 9, 9, 2, true⟩
  | .rrd => ⟨"RRD", 2, 18, 18, 2, true⟩
  | .rld => ⟨"RLD", 2, 18, 18, 2, true⟩
  | .inFC => ⟨"IN F,(C)", 2, 12, 12, 2, false⟩
  | .outC0 => ⟨"OUT (C),0", 2, 12, 12, 2, false⟩
  | .ldi => ⟨"LDI", 2, 16, 16, 2, true⟩
  | .cpi => ⟨"CPI", 2, 16, 16, 2, true⟩
  | .ini => ⟨"INI", 2, 16, 16, 2, true⟩
  | .outi => ⟨"OUTI", 2, 16, 16, 2, true⟩
  | .ldd => ⟨"LDD", 2, 16, 16, 2, true⟩
  | .cpd => ⟨"CPD", 2, 16, 16, 2, true⟩
  | .ind => ⟨"IND", 2, 16, 16, 2, true⟩
  | .outd => ⟨"OUTD", 2, 16, 16, 2, true⟩
  | .ldir => ⟨"LDIR", 2, 16, 21, 2, true⟩
  | .cpir => ⟨"CPIR", 2, 16, 21, 2, true⟩
  | .inir => ⟨"INIR", 2, 16, 21, 2, true⟩
  | .otir => ⟨"OTIR", 2, 16, 21, 2, true⟩
  | .lddr => ⟨"LDDR", 2, 16, 21, 2, true⟩
  | .cpdr => ⟨"CPDR", 2, 16, 21, 2, true⟩
  | .indr => ⟨"INDR", 2, 16, 21, 2, true⟩
  | .otdr => ⟨"OTDR", 2, 16, 21, 2, true⟩
  | .addIxPp _ _ => ⟨"ADD IX,pp", 2, 15, 15, 2, true⟩
  | .ldIxNn _ _ => ⟨"LD IX,nn", 4, 14, 14, 2, true⟩
  | .ldNnIndIx _ _ => ⟨"LD (nn),IX", 4, 20, 20, 2, true⟩
  | .incIx _ => ⟨"INC IX", 2, 10, 10, 2, true⟩
  | .incHalf _ _ => ⟨"INC IXH/IXL", 2, 8, 8, 2, false⟩
  | .decHalf _ _ => ⟨"DEC IXH/IXL", 2, 8, 8, 2, false⟩
  | .ldHalfN _ _ _ => ⟨"LD IXH/IXL,n", 3, 11, 11, 2, false⟩
  | .ldIxNnInd _ _ => ⟨"LD IX,(nn)", 4, 20, 20, 2, true⟩
  | .decIx _ => ⟨"DEC IX", 2, 10, 10, 2, true⟩
  | .incIxd _ _ => ⟨"INC (IX+d)", 3, 23, 23, 2, true⟩
  | .decIxd _ _ => ⟨"DEC (IX+d)", 3, 23, 23, 2, true⟩
  | .ldIxdN _ _ _ => ⟨"LD (IX+d),n", 4, 19, 19, 2, true⟩
  | .ldHalves _ _ _ => ⟨"LD r,r' (index halves)", 2, 8, 8, 2, false⟩
  | .ldRIxd _ _ _ => ⟨"LD r,(IX+d)", 3, 19, 19, 2, true⟩
  | .ldIxdR _ _ _ => ⟨"LD (IX+d),r", 3, 19, 19, 2, true⟩
  | .addAHalf _ _ => ⟨"ADD A,IXH/IXL", 2, 8, 8, 2, false⟩
  | .addAIxd _ _ => ⟨"ADD A,(IX+d)", 3, 19, 19, 2, true⟩
  | .adcAHalf _ _ => ⟨"ADC A,IXH/IXL", 2, 8, 8, 2, false⟩
  | .adcAIxd _ _ => ⟨"ADC A,(IX+d)", 3, 19, 19, 2, true⟩
  | .subHalf _ _ => ⟨"SUB IXH/IXL", 2, 8, 8, 2, false⟩
  | .subIxd _ _ => ⟨"SUB (IX+d)", 3, 19, 19, 2, true⟩
  | .sbcAHalf _ _ => ⟨"SBC A,IXH/IXL", 2, 8, 8, 2, false⟩
  | .sbcAIxd _ _ => ⟨"SBC A,(IX+d)", 3, 19, 19, 2, true⟩
  | .andHalf _ _ => ⟨"AND IXH/IXL", 2, 8, 8, 2, false⟩
  | .andIxd _ _ => ⟨"AND (IX+d)", 3, 19, 19, 2, true⟩
  | .xorHalf _ _ => ⟨"XOR IXH/IXL", 2, 8, 8, 2, false⟩
  | .xorIxd _ _ => ⟨"XOR (IX+d)", 3, 19, 19, 2, true⟩
  | .orHalf _ _ => ⟨"OR IXH/IXL", 2, 8, 8, 2, false⟩
  | .orIxd _ _ => ⟨"OR (IX+d)", 3, 19, 19, 2, true⟩
  | .cpHalf _ _ => ⟨"CP IXH/IXL", 2, 8, 8, 2, false⟩
  | .cpIxd _ _ => ⟨"CP (IX+d)", 3, 19, 19, 2, true⟩
  | .popIx _ => ⟨"POP IX", 2, 14, 14, 2, true⟩
  | .exSpIx _ => ⟨"EX (SP),IX", 2, 23, 23, 2, true⟩
  | .pushIx _ => ⟨"PUSH IX", 2, 15, 15, 2, true⟩
  | .jpIx _ => ⟨"JP (IX)", 2, 8, 8, 2, true⟩
  | .ldSpIx _ => ⟨"LD SP,IX", 2, 10, 10, 2, true⟩
  | .rlcIxdR _ _ _ => ⟨"RLC (IX+d),r", 4, 23, 23, 2, false⟩
  | .rlcIxd _ _ => ⟨"RLC (IX+d)", 4, 23, 23, 2, true⟩
  | .rrcIxdR _ _ _ => ⟨"RRC (IX+d),r", 4, 23, 23, 2, false⟩
  | .rrcIxd _ _ => ⟨"RRC (IX+d)", 4, 23, 23, 2, true⟩
  | .rlIxdR _ _ _ => ⟨"RL (IX+d),r", 4, 23, 23, 2, false⟩
  | .rlIxd _ _ => ⟨"RL (IX+d)", 4, 23, 23, 2, true⟩
  | .rrIxdR _ _ _ => ⟨"RR (IX+d),r", 4, 23, 23, 2, false⟩
  | .rrIxd _ _ => ⟨"RR (IX+d)", 4, 23, 23, 2, true⟩
  | .slaIxdR _ _ _ => ⟨"SLA (IX+d),r", 4, 23, 23, 2, false⟩
  | .slaIxd _ _ => ⟨"SLA (IX+d)", 4, 23, 23, 2, true⟩
  | .sraIxdR _ _ _ => ⟨"SRA (IX+d),r", 4, 23, 23, 2, false⟩
  | .sraIxd _ _ => ⟨"SRA (IX+d)", 4, 23, 23, 2, true⟩
  | .sllIxdR _ _ _ => ⟨"SLL (IX+d),r", 4, 23, 23, 2, false⟩
  | .sllIxd _ _ => ⟨"SLL (IX+d)", 4, 23, 23, 2, false⟩
  | .srlIxdR _ _ _ => ⟨"SRL (IX+d),r", 4, 23, 23, 2, false⟩
  | .srlIxd _ _ => ⟨"SRL (IX+d)", 4, 23, 23, 2, true⟩
  | .bitBIxdZ _ _ _ _ => ⟨"BIT b,(IX+d) (alias)", 4, 20, 20, 2, false⟩
  | .bitBIxd _ _ _ => ⟨"BIT b,(IX+d)", 4, 20, 20, 2, true⟩
  | .resBIxdR _ _ _ _ => ⟨"RES b,(IX+d),r", 4, 23, 23, 2, false⟩
  | .resBIxd _ _ _ => ⟨"RES b,(IX+d)", 4, 23, 23, 2, true⟩
  | .setBIxdR _ _ _ _ => ⟨"SET b,(IX+d),r", 4, 23, 23, 2, false⟩
  | .setBIxd _ _ _ => ⟨"SET b,(IX+d)", 4, 23, 23, 2, true⟩

/-- The index register of an indexed form, R140's `index` (none for the others). -/
def Instr.index : Instr → Option Idx
  | .prefixDDCB x => some x
  | .addIxPp x _ => some x
  | .ldIxNn x _ => some x
  | .ldNnIndIx x _ => some x
  | .incIx x => some x
  | .incHalf x _ => some x
  | .decHalf x _ => some x
  | .ldHalfN x _ _ => some x
  | .ldIxNnInd x _ => some x
  | .decIx x => some x
  | .incIxd x _ => some x
  | .decIxd x _ => some x
  | .ldIxdN x _ _ => some x
  | .ldHalves x _ _ => some x
  | .ldRIxd x _ _ => some x
  | .ldIxdR x _ _ => some x
  | .addAHalf x _ => some x
  | .addAIxd x _ => some x
  | .adcAHalf x _ => some x
  | .adcAIxd x _ => some x
  | .subHalf x _ => some x
  | .subIxd x _ => some x
  | .sbcAHalf x _ => some x
  | .sbcAIxd x _ => some x
  | .andHalf x _ => some x
  | .andIxd x _ => some x
  | .xorHalf x _ => some x
  | .xorIxd x _ => some x
  | .orHalf x _ => some x
  | .orIxd x _ => some x
  | .cpHalf x _ => some x
  | .cpIxd x _ => some x
  | .popIx x => some x
  | .exSpIx x => some x
  | .pushIx x => some x
  | .jpIx x => some x
  | .ldSpIx x => some x
  | .rlcIxdR x _ _ => some x
  | .rlcIxd x _ => some x
  | .rrcIxdR x _ _ => some x
  | .rrcIxd x _ => some x
  | .rlIxdR x _ _ => some x
  | .rlIxd x _ => some x
  | .rrIxdR x _ _ => some x
  | .rrIxd x _ => some x
  | .slaIxdR x _ _ => some x
  | .slaIxd x _ => some x
  | .sraIxdR x _ _ => some x
  | .sraIxd x _ => some x
  | .sllIxdR x _ _ => some x
  | .sllIxd x _ => some x
  | .srlIxdR x _ _ => some x
  | .srlIxd x _ => some x
  | .bitBIxdZ x _ _ _ => some x
  | .bitBIxd x _ _ => some x
  | .resBIxdR x _ _ _ => some x
  | .resBIxd x _ _ => some x
  | .setBIxdR x _ _ _ => some x
  | .setBIxd x _ _ => some x
  | _ => none

/-- R140's `length`: the bytes consumed, wasted prefixes included (R155). -/
def Decoded.length (d : Decoded) : Nat := d.wasted.length + d.instr.info.length

/-- R140's `t_base`, with 4 T-states per wasted prefix byte (R157). -/
def Decoded.tBase (d : Decoded) : Nat := d.instr.info.t + 4 * d.wasted.length

/-- R140's `t_taken` (R157). -/
def Decoded.tTaken (d : Decoded) : Nat := d.instr.info.tTaken + 4 * d.wasted.length

/-- R140's `m1`, with one M1 cycle per wasted prefix byte (R153). -/
def Decoded.m1 (d : Decoded) : Nat := d.instr.info.m1 + d.wasted.length

/-- R140's `documented` (R160). -/
def Decoded.documented (d : Decoded) : Bool := d.instr.info.documented

/-- R140's `form`. -/
def Decoded.form (d : Decoded) : String := d.instr.info.form

/-- R140's `index`: the index register of the form. A wasted prefix byte selects nothing (R153). -/
def Decoded.index (d : Decoded) : Option Idx := d.instr.index

/-- A decoded instruction that some bytes decode to: a well-formed instruction, fewer wasted prefix bytes than
PREFIX_LIMIT leaves room for (R156), and, where prefix bytes are wasted before a form that has no index prefix byte of
its own, a first byte that is not indexed and not CB (R151, R153). -/
def Decoded.wf (d : Decoded) : Bool :=
  d.instr.wf &&
  (match d.instr.index with
   | some _ => d.wasted.length + 1 < Config.prefixLimit
   | none => d.wasted.length < Config.prefixLimit) &&
  (d.wasted.isEmpty || d.instr.index.isSome ||
    match Sys2Proof.encode d.instr with
    | op :: _ => !isIndexedByte op && op != 0xCB
    | [] => false)

/-! ### One word of the opcode table, for the host -/

/-- The byte at address `a` of an instruction whose low `nbits` bits are `w`, bit 0 the least significant bit of the
first byte; every byte above is 0. -/
def tableByte (nbits w a : Nat) : Byte := BitVec.ofNat 8 (w % 2 ^ nbits / 2 ^ (8 * a))

/-- The instruction the decoder reads from the bytes of a table word laid out from address 0. -/
def decodeTableWord (nbits w : Nat) : Option Instr :=
  match decodeFrom (fun a => tableByte nbits w a.toNat) 0 with
  | .ok d => some d.instr
  | .prefixHang => none

end Sys2Proof
end

