-- ==== Sys2Proof/Machine/State.lean ====
section
/-!
DEFINITION. Sys2Proof/Machine/State.lean: the state record of one CPU instance (R40) as plain data, the parameters of the
model (R5), the inputs of the environment (R510, R470, R601), the debug controller's state (R560), and the state after
power-on reset (R62, R600).
-/

namespace Sys2Proof.Machine

/-- A flag of F (R45). -/
inductive Flag where
  | s | z | y | h | x | pv | n | c
  deriving DecidableEq, Repr

/-- What can carry an "unset" mark (R62): an unspecified register, each half of an index register, each bit of F and of
F'. -/
inductive Loc where
  | a | b | c | d | e | h | l
  | a' | b' | c' | d' | e' | h' | l'
  | f (k : Flag)
  | f' (k : Flag)
  | ixh | ixl | iyh | iyl | sp
  deriving DecidableEq, Repr

/-- The reason of `fault Invariant` (R501). -/
inductive InvariantReason where
  /-- The executor has no rule for a decoded form. Never raised: every form has a meaning. Safe. -/
  | noRule (form : String)
  /-- The disassembler has no text for a decoded form. Never raised: every form has a spelling. Safe. -/
  | noSpelling (form : String)
  /-- A read of a register or flag bit that reset left unspecified, under UNSET_READ = fault only (R62). Raised by the
  engine before the instruction or acknowledge writes anything. Safe: the chip goes on. -/
  | unsetRead (name : Loc)
  deriving DecidableEq, Repr

/-- Why a step stops with a fault. -/
inductive Fault where
  /-- `fault Invariant(reason)` (R9, R501): raised by the engine when it meets the reason, and again by every later step of
  the marked state (R64). Safe: the chip has no such fault. -/
  | invariant (reason : InvariantReason)
  /-- The stuck state PrefixHang (R156, R503): raised by the engine when decode does not return. Safe: no step is enabled,
  where the chip fetches prefix bytes for ever. -/
  | prefixHang
  deriving DecidableEq, Repr

/-- Why a step is refused. -/
inductive Refusal where
  /-- An instruction with no meaning yet, named as the opcode table names it. Raised by exec's refused arms alone; there are
  none. Safe. -/
  | notModelled (mnemonic : String)
  /-- `refuse Undocumented(form)` (R9, R160, R502): raised by the meaning of an undocumented form under UNDOC = refuse. Safe:
  the chip executes the form. -/
  | undocumented (form : String)
  /-- `refuse IM0Data(bytes)` (R531): raised by a maskable acknowledge in mode 0 whose data is not one RST byte. Safe: the chip
  executes the data. -/
  | im0Data (bytes : List Byte)
  deriving DecidableEq, Repr

/-- Memory (R100) as (address, byte) pairs. Its canonical form is `Memory.wf` (Machine/Memory.lean): addresses strictly
rising, no byte equal to what an unlisted address reads as. -/
abbrev Memory := List Host.Cell

/-- The parameters of R5 that a launch fixes. No step changes them. -/
structure Params where
  /-- UNDOC -/
  undoc : UndocPolicy
  /-- XY_POLICY -/
  xyPolicy : XyPolicy
  /-- UNSET_READ -/
  unsetRead : UnsetPolicy
  /-- OUT_C_ZERO -/
  outCZero : Byte
  /-- ROM_REGION -/
  romRegion : List AddrRange
  /-- END_PCS -/
  endPcs : List Word
  deriving DecidableEq, Repr

/-- INT_ENV (R510) as data: the samples of the boundaries to come, the next one first, and after them nothing asserted; the
ZX Spectrum 48K profile, which reads the clock; or the free environment `Config.intEnv` from the boundary with the given
number on (log entry 4). -/
inductive IntEnv where
  | schedule (samples : List IntSample)
  | spectrum48
  | free (boundary : Nat)
  deriving DecidableEq, Repr

/-- RESET_ENV (R5, R601) as data: the bits of the boundaries to come, the next one first, and after them never; or the free
environment `Config.resetEnv` from the boundary with the given number on (log entry 4). -/
inductive ResetEnv where
  | schedule (bits : List Bool)
  | free (boundary : Nat)
  deriving DecidableEq, Repr

/-- What the ULA sees at one port read (R487): the 5 key lines of the half-row of each address line a16[8] to a16[15], a
pressed key 0, and the EAR input. -/
structure KeySnap where
  rows : Vector (BitVec 5) 8
  ear : Bool
  deriving DecidableEq, Repr

/-- PORT_IN (R470) as data: the answers of the reads to come, the next one first, and after them the free answer
`Config.portIn`; or the ZX Spectrum 48K profile of R487 with the snapshot of the next read and those after it (log entry
5). -/
inductive PortEnv where
  | answers (bytes : List Byte)
  | spectrum48 (now : KeySnap) (later : List KeySnap)
  deriving DecidableEq, Repr

/-- The inputs from outside the core. -/
structure Env where
  /-- INT_ENV (R510) -/
  int : IntEnv
  /-- RESET_ENV (R601) -/
  reset : ResetEnv
  /-- PORT_IN (R470) -/
  port : PortEnv
  deriving DecidableEq, Repr

/-- A watchpoint's target (R562): a register name, a pair, a latch, or one byte of memory. -/
inductive Target where
  | a | f | b | c | d | e | h | l
  | af | bc | de | hl
  | a' | f' | b' | c' | d' | e' | h' | l'
  | af' | bc' | de' | hl'
  | ix | iy | ixh | ixl | iyh | iyl
  | sp | pc | i | r
  | iff1 | iff2 | im
  | mem (addr : Word)
  deriving DecidableEq, Repr

/-- A watchpoint's predicate over (before, after) (R562). -/
inductive Pred where
  /-- `changed(b, a) = (a ≠ b)` -/
  | changed
  /-- `equals(k)(b, a) = (a == k and b ≠ k)` -/
  | equals (k : Word)
  /-- Any other total function: the k-th predicate of the host, a free one (log entry 8). -/
  | host (k : Nat)
  deriving DecidableEq, Repr

/-- An entry of the watchpoint map (R560, R562): id, target, predicate, snapshot. -/
structure Watch where
  id : Nat
  target : Target
  pred : Pred
  snap : Word
  deriving DecidableEq, Repr

/-- The debug controller's modes (R560). -/
inductive DbgMode where
  | idle | running | steppingOne | stoppedAtBreakpoint | stoppedAtWatchpoint
  deriving DecidableEq, Repr

/-- The debug controller's state (R560). The set `bps` is a strictly rising list, the map `wps` a list with strictly rising
ids. -/
structure Dbg where
  mode : DbgMode
  bps : List Word
  wps : List Watch
  nextId : Nat
  stopBp : Option Word
  fired : List Nat
  deriving DecidableEq, Repr

/-- The state of one CPU instance (R40), with the parameters and inputs it runs under. -/
structure State where
  /-- the active bank (R41) -/
  a : Byte
  f : Byte
  b : Byte
  c : Byte
  d : Byte
  e : Byte
  h : Byte
  l : Byte
  /-- the shadow bank (R42) -/
  a' : Byte
  f' : Byte
  b' : Byte
  c' : Byte
  d' : Byte
  e' : Byte
  h' : Byte
  l' : Byte
  /-- the index registers (R48) -/
  ix : Word
  iy : Word
  /-- the stack pointer (R49) -/
  sp : Word
  /-- the program counter (R50) -/
  pc : Word
  /-- the interrupt vector register (R51) -/
  i : Byte
  /-- the memory refresh register (R52) -/
  r : Byte
  /-- the interrupt-enable flip-flops (R53) -/
  iff1 : Bool
  iff2 : Bool
  /-- the interrupt mode (R54) -/
  im : IMode
  /-- the hidden bits (R55) -/
  halted : Bool
  eiShadow : Bool
  nmiLatch : Bool
  /-- the T-state clock (R56) -/
  clock : Nat
  /-- the memory array (R100) -/
  mem : Memory
  /-- the port event history, oldest first (R470) -/
  ioLog : List PortEvent
  /-- the debug controller (R560) -/
  dbg : Dbg
  /-- the sticky mark `faulted`, with its reason (R64, R501); none is the clear mark -/
  faulted : Option InvariantReason
  /-- the sticky mark `refused`, with its reason (R64, R502); none is the clear mark -/
  refused : Option Refusal
  /-- the "unset" marks, under UNSET_READ = fault (R62), each at most once -/
  unset : List Loc
  /-- the parameters (R5) -/
  cfg : Params
  /-- the inputs (R510, R470, R601) -/
  env : Env
  /-- THE MODEL'S OWN FIELD: the number of free flag bytes drawn so far, so that each draw is a new one (log entry 6) -/
  draws : Nat
  deriving DecidableEq, Repr

/-- RESET_DRAW (R5, R62): a value for each register reset leaves unspecified. -/
structure ResetDraw where
  af : Word
  bc : Word
  de : Word
  hl : Word
  af' : Word
  bc' : Word
  de' : Word
  hl' : Word
  ix : Word
  iy : Word
  sp : Word
  deriving DecidableEq, Repr

/-- The draw that R62 offers a simulator that needs one: 0xFFFF throughout. DESIGN CHOICE, unsafe: a claim may lean on it (log
entry 1). -/
def ResetDraw.allOnes : ResetDraw :=
  ⟨0xFFFF, 0xFFFF, 0xFFFF, 0xFFFF, 0xFFFF, 0xFFFF, 0xFFFF, 0xFFFF, 0xFFFF, 0xFFFF, 0xFFFF⟩

/-- The parameters at their values for this hardware (R5): UNDOC and XY_POLICY silicon, UNSET_READ draw, OUT_C_ZERO 0x00. The
two that are arguments, ROM_REGION and END_PCS, are empty: DESIGN CHOICE, unsafe (log entry 3). -/
def Params.standard : Params := ⟨.silicon, .silicon, .draw, 0x00, [], []⟩

/-- The quiet environment: no interrupt, no reset, free port answers. DESIGN CHOICE, unsafe for INT_ENV (log entry 4). -/
def Env.quiet : Env := ⟨.schedule [], .schedule [], .answers []⟩

/-- Every location reset leaves unspecified (R62). -/
def Loc.all : List Loc :=
  [.a, .b, .c, .d, .e, .h, .l, .a', .b', .c', .d', .e', .h', .l'] ++
  [.f .s, .f .z, .f .y, .f .h, .f .x, .f .pv, .f .n, .f .c] ++
  [.f' .s, .f' .z, .f' .y, .f' .h, .f' .x, .f' .pv, .f' .n, .f' .c] ++
  [.ixh, .ixl, .iyh, .iyl, .sp]

/-- Power-on reset (R62, R600) under the parameters, with INIT_MEMORY, the environment and RESET_DRAW given. -/
def State.powerOn (cfg : Params) (env : Env) (mem : Memory) (w : ResetDraw) : State :=
  { a := w.af.extractLsb' 8 8, f := w.af.extractLsb' 0 8, b := w.bc.extractLsb' 8 8, c := w.bc.extractLsb' 0 8,
    d := w.de.extractLsb' 8 8, e := w.de.extractLsb' 0 8, h := w.hl.extractLsb' 8 8, l := w.hl.extractLsb' 0 8,
    a' := w.af'.extractLsb' 8 8, f' := w.af'.extractLsb' 0 8, b' := w.bc'.extractLsb' 8 8, c' := w.bc'.extractLsb' 0 8,
    d' := w.de'.extractLsb' 8 8, e' := w.de'.extractLsb' 0 8, h' := w.hl'.extractLsb' 8 8, l' := w.hl'.extractLsb' 0 8,
    ix := w.ix, iy := w.iy, sp := w.sp, pc := 0x0000, i := 0x00, r := 0x00,
    iff1 := false, iff2 := false, im := .im0, halted := false, eiShadow := false, nmiLatch := false,
    clock := 0, mem := mem, ioLog := [], dbg := ⟨.idle, [], [], 0, none, []⟩, faulted := none, refused := none,
    unset := match cfg.unsetRead with | .draw => [] | .fault => Loc.all,
    cfg := cfg, env := env, draws := 0 }

/-- The machine right after reset: R62's table, with the standard parameters, the quiet environment, no memory listed and
every unspecified register 0xFF or 0xFFFF (log entries 1 to 6). -/
def State.reset : State := State.powerOn Params.standard Env.quiet [] ResetDraw.allOnes

end Sys2Proof.Machine
end

