-- ==== Sys2Proof/Machine/Memory.lean ====
section
/-!
DEFINITION. Sys2Proof/Machine/Memory.lean: the memory array of 65,536 bytes (R100) as a list in canonical form, and its two
operations. They know nothing of ROM_REGION: that is Ops.lean's `State.memWrite`.
-/

namespace Sys2Proof.Machine

/-- What an address that is not listed reads as. DESIGN CHOICE, unsafe: R602 leaves INIT_MEMORY to the host; this is its byte
outside what the host lists (log entry 2). -/
def Memory.unwritten : Byte := 0x00

/-- The first byte listed for an address. -/
def Memory.lookup : Memory → Nat → Byte
  | [], _ => Memory.unwritten
  | (k, v) :: m, a => if k = a then v else Memory.lookup m a

/-- `mem[a]` (R100). -/
def Memory.read (m : Memory) (a : Word) : Byte := Memory.lookup m a.toNat

/-- The list with no entry for an address. -/
def Memory.erase (m : Memory) (a : Nat) : Memory := m.filter (fun cell => cell.1 != a)

/-- The list with an entry put before the first one at a higher address. -/
def Memory.insert : Memory → Nat → Byte → Memory
  | [], a, v => [(a, v)]
  | (k, w) :: m, a, v => if a < k then (a, v) :: (k, w) :: m else (k, w) :: Memory.insert m a v

/-- `mem[a] <- v` (R100), in canonical form. -/
def Memory.write (m : Memory) (a : Word) (v : Byte) : Memory :=
  if v = Memory.unwritten then Memory.erase m a.toNat else Memory.insert (Memory.erase m a.toNat) a.toNat v

/-- The canonical form: addresses strictly rising and below 2^16, no entry equal to what an unlisted address reads as. -/
abbrev Memory.wf (m : Memory) : Prop :=
  m.Pairwise (fun x y => x.1 < y.1) ∧ ∀ cell ∈ m, cell.1 < 65536 ∧ cell.2 ≠ Memory.unwritten

/-- `mem[a .. a + n - 1] <- bytes`, wrapping: how a host lays bytes into memory before a run (R602). -/
def Memory.place : Memory → Word → List Byte → Memory
  | m, _, [] => m
  | m, a, v :: vs => Memory.place (Memory.write m a v) (a + 1) vs

end Sys2Proof.Machine
end

