-- ==== Sys2Proof/Machine/Ops.lean ====
section
/-!
DEFINITION. Sys2Proof/Machine/Ops.lean: the named operations every meaning is made of: register pairs, flag bits, memory and
stack, ports, free flag bits, the two ends of an instruction step, and taking an interrupt and returning from one.
-/

namespace Sys2Proof.Machine

/-- What a meaning and a step answer. -/
abbrev Result := Host.Outcome State Fault Refusal

/-! ### Register pairs (R43) -/

/-- AF = A : F. -/
def State.af (s : State) : Word := join s.a s.f
/-- BC = B : C. -/
def State.bc (s : State) : Word := join s.b s.c
/-- DE = D : E. -/
def State.de (s : State) : Word := join s.d s.e
/-- HL = H : L. -/
def State.hl (s : State) : Word := join s.h s.l
/-- `AF <- w`. -/
def State.setAF (s : State) (w : Word) : State := { s with a := hi w, f := lo w }
/-- `BC <- w`. -/
def State.setBC (s : State) (w : Word) : State := { s with b := hi w, c := lo w }
/-- `DE <- w`. -/
def State.setDE (s : State) (w : Word) : State := { s with d := hi w, e := lo w }
/-- `HL <- w`. -/
def State.setHL (s : State) (w : Word) : State := { s with h := hi w, l := lo w }

/-! ### Flag bits (R45) -/

/-- The bit of F a flag is (R45). -/
def Flag.bit : Flag → Nat
  | .s => 7 | .z => 6 | .y => 5 | .h => 4 | .x => 3 | .pv => 2 | .n => 1 | .c => 0

/-- The flag's bit of F (R7). -/
def State.flag (s : State) (k : Flag) : Bool := s.f.getLsbD k.bit

/-! ### Memory and stack (R8, R9, R100 to R106) -/

/-- Is the address in ROM_REGION (R106)? -/
def State.inRom (s : State) (a : Word) : Bool := s.cfg.romRegion.any (·.has a)

/-- `MemRead(a, 1)` (R100). -/
def State.memRead (s : State) (a : Word) : Byte := Memory.read s.mem a

/-- `MemWrite(a, 1, v)` (R100): a write into ROM_REGION has no effect. -/
def State.memWrite (s : State) (a : Word) (v : Byte) : State :=
  if s.inRom a then s else { s with mem := Memory.write s.mem a v }

/-- `MemRead(a, 2)`: little-endian, a + 1 modulo 2^16 (R101, R103). -/
def State.memRead16 (s : State) (a : Word) : Word := join (s.memRead (a + 1)) (s.memRead a)

/-- `MemWrite(a, 2, v)`: the low byte, then the high byte (R101). -/
def State.memWrite16 (s : State) (a : Word) (v : Word) : State := (s.memWrite a (lo v)).memWrite (a + 1) (hi v)

/-- `push(w)` (R9): the high byte at SP - 1, then the low byte at SP - 2. -/
def State.push (s : State) (w : Word) : State :=
  let s := { s with sp := s.sp - 1 }
  let s := s.memWrite s.sp (hi w)
  let s := { s with sp := s.sp - 1 }
  s.memWrite s.sp (lo w)

/-- The value `pop()` returns (R9). -/
def State.popped (s : State) : Word := s.memRead16 s.sp

/-- The state `pop()` leaves (R9). -/
def State.dropTop (s : State) : State := { s with sp := s.sp + 2 }

/-! ### Ports (R470, R487) -/

/-- The key lines of the half-rows whose address line is 0, combined with and (R487): `rows` from address line `k` up. -/
def selectedKeys (a : Word) : Nat → List (BitVec 5) → BitVec 5
  | _, [] => 0b11111
  | k, row :: rows => if a.getLsbD k then selectedKeys a (k + 1) rows else row &&& selectedKeys a (k + 1) rows

/-- The ZX Spectrum 48K answer to a port read (R487): the ULA where a16[0] = 0, else 0xFF. -/
def spectrumPort (now : KeySnap) (a : Word) : Byte :=
  if a.getLsbD 0 then 0xFF
  else 0b1#1 ++ BitVec.ofBool now.ear ++ 0b1#1 ++ selectedKeys a 8 now.rows.toList

/-- PORT_IN's answer to a read of `a` after the history `log` (R470). -/
def PortEnv.answer (p : PortEnv) (a : Word) (log : List PortEvent) : Byte :=
  match p with
  | .answers [] => Config.portIn a log
  | .answers (v :: _) => v
  | .spectrum48 now _ => spectrumPort now a

/-- PORT_IN after a read: what is listed for this read is used up. DESIGN CHOICE (log entry 5): R487 leaves when keys and EAR
change to the collaborator, and the last snapshot listed is what every later read sees. -/
def PortEnv.next : PortEnv → PortEnv
  | .answers [] => .answers []
  | .answers (_ :: vs) => .answers vs
  | .spectrum48 now [] => .spectrum48 now []
  | .spectrum48 _ (k :: ks) => .spectrum48 k ks

/-- The byte `PortRead(a16)` returns (R470). -/
def State.portValue (s : State) (a : Word) : Byte := s.env.port.answer a s.ioLog

/-- The state `PortRead(a16)` leaves: the event is logged, with the clock at the start of the engine step (R470). -/
def State.portRead (s : State) (a : Word) : State :=
  { s with env := { s.env with port := s.env.port.next },
           ioLog := s.ioLog ++ [⟨.input, a, s.portValue a, s.clock⟩] }

/-- `PortWrite(a16, v)` (R470). -/
def State.portWrite (s : State) (a : Word) (v : Byte) : State :=
  { s with ioLog := s.ioLog ++ [⟨.output, a, v, s.clock⟩] }

/-! ### Writing F (R10) -/

/-- The byte `silicon` with the bits of `mask` taken from `free`. -/
def mixFree (mask silicon free : Byte) : Byte :=
  if mask = 0 then silicon else (silicon &&& ~~~mask) ||| (free &&& mask)

/-- Which bits of F a write draws: those of `draws` under either policy, those of `undoc` under XY_POLICY = draw (R10). -/
def State.drawnBits (s : State) (undoc draws : Byte) : Byte :=
  match s.cfg.xyPolicy with
  | .silicon => draws
  | .draw => draws ||| undoc

/-- Write F (R10): `silicon` holds the rule's value of every bit, `undoc` the bits the rule writes through setXY or setUndoc,
`draws` those it writes through drawXY or as draws. A drawn bit is a free value (log entry 6). -/
def State.writeFlags (s : State) (undoc draws silicon : Byte) : State :=
  { s with f := mixFree (s.drawnBits undoc draws) silicon (Config.freeFlags s.draws), draws := s.draws + 1 }

/-! ### The two ends of an instruction step (R521) -/

/-- R incremented `n` times: R[6:0] counts modulo 128, R[7] is kept (R52). -/
def incRefresh (n : Nat) (r : Byte) : Byte := (r &&& 0x80) ||| BitVec.ofNat 8 ((r.toNat + n) % 128)

/-- Before the body (R521): R counts the M1 cycles, PC moves past the instruction. -/
def State.fetch (s : State) (length m1 : Nat) : State :=
  { s with r := incRefresh m1 s.r, pc := s.pc + BitVec.ofNat 16 length }

/-- After the body (R521): the clock advances and the EI shadow ends. -/
def State.done (s : State) (t : Nat) : Result := .next { s with clock := s.clock + t, eiShadow := false }

/-- An undocumented form (R160, R502): refused under UNDOC = refuse, else `k`. -/
def State.undocumented (s : State) (form : String) (k : Result) : Result :=
  match s.cfg.undoc with
  | .refuse => .refused (.undocumented form)
  | .silicon => k

/-- A wasted prefix byte, but for its T-states (R348): one byte, one M1. -/
def State.skipPrefixes (s : State) (n : Nat) : State := s.fetch n n

/-! ### Taking an interrupt, returning from one, the halted tick, the warm reset -/

/-- What every acknowledge does (R530, R531, R533, R535): `halted` and the EI shadow end, IFF1 is cleared and IFF2 becomes
`iff2`, R counts one M1, PC is pushed, and PC becomes `target`, read after the push. -/
def State.enterHandler (s : State) (iff2 : Bool) (t : Nat) (target : State → Word) : State :=
  let s := { s with halted := false, eiShadow := false, iff1 := false, iff2 := iff2, r := incRefresh 1 s.r }
  let s := s.push s.pc
  { s with pc := target s, clock := s.clock + t }

/-- NMI acknowledge (R530): IFF2 is kept, the entry is 0x0066, 11 T. -/
def State.nmiAck (s : State) : State :=
  { s with nmiLatch := false }.enterHandler s.iff2 11 (fun _ => 0x0066)

/-- Is the byte an RST opcode, 0b11ttt111 (R531)? -/
def isRstOpcode (b : Byte) : Bool := b &&& 0xC7 == 0xC7

/-- `zext_16(b[5:3]) * 8`, the address an RST opcode calls (R458, R531). -/
def rstTarget (b : Byte) : Word := zext16 (b &&& 0x38)

/-- The data of an acknowledge: an empty sequence reads as [0xFF] (R533, D9). -/
def ackData (data : List Byte) : List Byte := if data.isEmpty then [0xFF] else data

/-- Maskable acknowledge (R531, R533). In mode 0 data other than one RST byte is refused before any write. -/
def State.intAck (s : State) (data : List Byte) : Result :=
  match s.im, ackData data with
  | .im0, [b] =>
    if isRstOpcode b then .next (s.enterHandler false 13 (fun _ => rstTarget b)) else .refused (.im0Data data)
  | .im0, _ => .refused (.im0Data data)
  | .im1, _ => .next (s.enterHandler false 13 (fun _ => 0x0038))
  | .im2, bytes => .next (s.enterHandler false 19 (fun t => t.memRead16 (join s.i (bytes.headD 0xFF))))

/-- Return from an interrupt (R456, R457): `pc <- pop(); IFF1 <- IFF2`. -/
def State.returnFromInterrupt (s : State) : State :=
  { s.dropTop with pc := s.popped, iff1 := s.iff2 }

/-- Halted tick (R522). -/
def State.haltTick (s : State) : State :=
  { s with r := incRefresh 1 s.r, clock := s.clock + 4, eiShadow := false }

/-- Warm reset (R601). -/
def State.warmReset (s : State) : State :=
  { s with pc := 0x0000, iff1 := false, iff2 := false, im := .im0, i := 0x00, r := 0x00,
           halted := false, eiShadow := false, nmiLatch := false,
           dbg := { s.dbg with mode := .idle, stopBp := none, fired := [] } }

/-! ### The inputs of a boundary (R510, R601) -/

/-- A sample with nothing asserted. -/
def quietSample : IntSample := ⟨false, false, []⟩

/-- The sample of INT_ENV at a boundary (R510). The Spectrum profile asserts INT for the first 32 T of each frame of 69,888 T,
with data [0xFF]. -/
def IntEnv.sample (e : IntEnv) (clock : Nat) (log : List PortEvent) : IntSample :=
  match e with
  | .schedule [] => quietSample
  | .schedule (k :: _) => k
  | .spectrum48 => ⟨clock % 69888 < 32, false, [0xFF]⟩
  | .free n => Config.intEnv n clock log

/-- INT_ENV after the boundary. DESIGN CHOICE (log entry 4): R510 counts boundaries "since reset" and does not say which; the
number of the free environment runs on across a warm reset, whose boundary counts as any other. -/
def IntEnv.next : IntEnv → IntEnv
  | .schedule [] => .schedule []
  | .schedule (_ :: ks) => .schedule ks
  | .spectrum48 => .spectrum48
  | .free n => .free (n + 1)

/-- Does RESET_ENV give 1 at a boundary (R601)? -/
def ResetEnv.sample : ResetEnv → Bool
  | .schedule [] => false
  | .schedule (b :: _) => b
  | .free n => Config.resetEnv n

/-- RESET_ENV after the boundary. DESIGN CHOICE (log entry 4): as for INT_ENV, a warm reset does not set the number back. -/
def ResetEnv.next : ResetEnv → ResetEnv
  | .schedule [] => .schedule []
  | .schedule (_ :: bs) => .schedule bs
  | .free n => .free (n + 1)

/-- Does RESET_ENV give 1 at this boundary (R601)? -/
def State.resetNow (s : State) : Bool := s.env.reset.sample

/-- The sample of INT_ENV at this boundary. -/
def State.intNow (s : State) : IntSample := s.env.int.sample s.clock s.ioLog

/-- The boundary's samples are used up: each is used by one step only (R520). -/
def State.tick (s : State) : State :=
  { s with env := { s.env with int := s.env.int.next, reset := s.env.reset.next } }

/-- Is a maskable interrupt accepted at a boundary with this sample, if no NMI is (R512, R520, R532)? -/
def State.acceptsInt (s : State) (sample : IntSample) : Bool := sample.intLine && s.iff1 && !s.eiShadow

end Sys2Proof.Machine
end

