-- ==== Sys2Proof/Machine/Operands.lean ====
section
/-!
DEFINITION. Sys2Proof/Machine/Operands.lean: reading and writing every operand form (R143, R145, R146, R152).
-/

namespace Sys2Proof.Machine

/-- `r[k]` (R143). -/
def State.reg8 (s : State) : Reg8 → Byte
  | .b => s.b | .c => s.c | .d => s.d | .e => s.e | .h => s.h | .l => s.l | .a => s.a

/-- `r[k] <- v`. -/
def State.setReg8 (s : State) (r : Reg8) (v : Byte) : State :=
  match r with
  | .b => { s with b := v }
  | .c => { s with c := v }
  | .d => { s with d := v }
  | .e => { s with e := v }
  | .h => { s with h := v }
  | .l => { s with l := v }
  | .a => { s with a := v }

/-- The index register X (R151). -/
def State.idx (s : State) : Idx → Word
  | .ix => s.ix | .iy => s.iy

/-- `X <- w`. -/
def State.setIdx (s : State) (x : Idx) (w : Word) : State :=
  match x with
  | .ix => { s with ix := w }
  | .iy => { s with iy := w }

/-- XH or XL (R48). -/
def State.half (s : State) (x : Idx) : Half → Byte
  | .xh => hi (s.idx x) | .xl => lo (s.idx x)

/-- Write a half of X; the other half is unchanged (R48). -/
def State.setHalf (s : State) (x : Idx) (p : Half) (v : Byte) : State :=
  match p with
  | .xh => s.setIdx x (join v (lo (s.idx x)))
  | .xl => s.setIdx x (join (hi (s.idx x)) v)

/-- `r'[k]`, table r with the halves of X at 4 and 5 (R218). -/
def State.xreg8 (s : State) (x : Idx) : XReg8 → Byte
  | .b => s.b | .c => s.c | .d => s.d | .e => s.e | .a => s.a
  | .xh => s.half x .xh | .xl => s.half x .xl

/-- `r'[k] <- v` (R218). -/
def State.setXReg8 (s : State) (x : Idx) (r : XReg8) (v : Byte) : State :=
  match r with
  | .b => { s with b := v }
  | .c => { s with c := v }
  | .d => { s with d := v }
  | .e => { s with e := v }
  | .a => { s with a := v }
  | .xh => s.setHalf x .xh v
  | .xl => s.setHalf x .xl v

/-- `rp[p]` (R143). -/
def State.rp (s : State) : RP → Word
  | .bc => s.bc | .de => s.de | .hl => s.hl | .sp => s.sp

/-- `rp[p] <- w`. -/
def State.setRP (s : State) (p : RP) (w : Word) : State :=
  match p with
  | .bc => s.setBC w
  | .de => s.setDE w
  | .hl => s.setHL w
  | .sp => { s with sp := w }

/-- `rp2[p]` (R143). -/
def State.rp2 (s : State) : RP2 → Word
  | .bc => s.bc | .de => s.de | .hl => s.hl | .af => s.af

/-- `rp2[p] <- w`. -/
def State.setRP2 (s : State) (p : RP2) (w : Word) : State :=
  match p with
  | .bc => s.setBC w
  | .de => s.setDE w
  | .hl => s.setHL w
  | .af => s.setAF w

/-- The operand pp of `ADD X,pp` (R372): p = 2 is X itself. -/
def State.xrp (s : State) (x : Idx) : XRP → Word
  | .bc => s.bc | .de => s.de | .self => s.idx x | .sp => s.sp

/-- The effective address `X + sext_8(d)` modulo 2^16 (R145). -/
def State.idxAddr (s : State) (x : Idx) (d : Byte) : Word := s.idx x + sext8 d

/-- The byte `(HL)` (R44). -/
def State.hlByte (s : State) : Byte := s.memRead s.hl

/-- The byte `(X+d)` (R145). -/
def State.idxByte (s : State) (x : Idx) (d : Byte) : Byte := s.memRead (s.idxAddr x d)

/-- `cond(k)` (R146). -/
def State.cond (s : State) : Cond → Bool
  | .nz => !s.flag .z
  | .z => s.flag .z
  | .nc => !s.flag .c
  | .c => s.flag .c
  | .po => !s.flag .pv
  | .pe => s.flag .pv
  | .p => !s.flag .s
  | .m => s.flag .s

/-- The relative target `PC + sext_8(e)`, PC already past the instruction (R145, R451). -/
def State.relTarget (s : State) (e : Byte) : Word := s.pc + sext8 e

/-- The port address `A : n` (R471). -/
def State.portAN (s : State) (n : Byte) : Word := join s.a n

end Sys2Proof.Machine
end

