-- ==== Sys2Proof/Machine/Flags.lean ====
section
/-!
DEFINITION. Sys2Proof/Machine/Flags.lean: the ALU and flag-compute unit (R300 to R303, R370, R390, R420, R478) and what each
operation does to the state. A primitive returns its result and the byte F takes under XY_POLICY = silicon; the state
operation then writes F through `State.writeFlags`, naming the bits that the rule writes through setXY or setUndoc (R10).
-/

namespace Sys2Proof.Machine

/-- The eight bits of F by name (R45). -/
structure FlagBits where
  s : Bool
  z : Bool
  y : Bool
  h : Bool
  x : Bool
  pv : Bool
  n : Bool
  c : Bool
  deriving DecidableEq, Repr

/-- The byte with these flag bits (R45). -/
def FlagBits.pack (k : FlagBits) : Byte :=
  BitVec.ofBool k.s ++ BitVec.ofBool k.z ++ BitVec.ofBool k.y ++ BitVec.ofBool k.h ++
  BitVec.ofBool k.x ++ BitVec.ofBool k.pv ++ BitVec.ofBool k.n ++ BitVec.ofBool k.c

/-- The flag bits of a byte (R45): the start of a rule that leaves some of them unchanged. -/
def FlagBits.ofByte (f : Byte) : FlagBits :=
  ⟨f.getLsbD 7, f.getLsbD 6, f.getLsbD 5, f.getLsbD 4, f.getLsbD 3, f.getLsbD 2, f.getLsbD 1, f.getLsbD 0⟩

/-- `parity(v)`: an even number of one bits (R10). -/
def parity (v : Byte) : Bool :=
  !(v.getLsbD 0 ^^ v.getLsbD 1 ^^ v.getLsbD 2 ^^ v.getLsbD 3 ^^ v.getLsbD 4 ^^ v.getLsbD 5 ^^ v.getLsbD 6 ^^ v.getLsbD 7)

/-- The bits that setXY writes: Y and X. -/
def maskXY : Byte := 0x28

/-- Low nibble, as a number. -/
def low4 (b : Byte) : Nat := b.toNat % 16

/-- The low twelve bits, as a number. -/
def low12 (w : Word) : Nat := w.toNat % 4096

/-! ### 8-bit arithmetic and logic (R300 to R303) -/

/-- `add8(a, b, c)` (R300). -/
def add8 (a b : Byte) (c : Bool) : Byte × Byte :=
  let sum := a.toNat + b.toNat + c.toNat
  let res := BitVec.ofNat 8 sum
  (res, { s := res.getLsbD 7, z := res == 0, y := res.getLsbD 5, h := low4 a + low4 b + c.toNat > 0x0F,
          x := res.getLsbD 3, pv := a.getLsbD 7 == b.getLsbD 7 && res.getLsbD 7 != a.getLsbD 7,
          n := false, c := sum > 0xFF : FlagBits }.pack)

/-- `sub8(a, b, c)` (R301). -/
def sub8 (a b : Byte) (c : Bool) : Byte × Byte :=
  let res := a - b - BitVec.ofNat 8 c.toNat
  (res, { s := res.getLsbD 7, z := res == 0, y := res.getLsbD 5, h := low4 a < low4 b + c.toNat,
          x := res.getLsbD 3, pv := a.getLsbD 7 != b.getLsbD 7 && res.getLsbD 7 != a.getLsbD 7,
          n := true, c := a.toNat < b.toNat + c.toNat : FlagBits }.pack)

/-- The flags of the logic primitives (R302), H apart. -/
def logicFlags (res : Byte) (h : Bool) : Byte :=
  { s := res.getLsbD 7, z := res == 0, y := res.getLsbD 5, h := h, x := res.getLsbD 3, pv := parity res,
    n := false, c := false : FlagBits }.pack

/-- `and8(a, b)` (R302). -/
def and8 (a b : Byte) : Byte × Byte := (a &&& b, logicFlags (a &&& b) true)

/-- `xor8(a, b)` (R302). -/
def xor8 (a b : Byte) : Byte × Byte := (a ^^^ b, logicFlags (a ^^^ b) false)

/-- `or8(a, b)` (R302). -/
def or8 (a b : Byte) : Byte × Byte := (a ||| b, logicFlags (a ||| b) false)

/-- `inc8(v)` (R303): C is `f`'s. -/
def inc8 (v f : Byte) : Byte × Byte :=
  let res := v + 1
  (res, { s := res.getLsbD 7, z := res == 0, y := res.getLsbD 5, h := low4 v == 0x0F, x := res.getLsbD 3,
          pv := v == 0x7F, n := false, c := f.getLsbD 0 : FlagBits }.pack)

/-- `dec8(v)` (R303): C is `f`'s. -/
def dec8 (v f : Byte) : Byte × Byte :=
  let res := v - 1
  (res, { s := res.getLsbD 7, z := res == 0, y := res.getLsbD 5, h := low4 v == 0x00, x := res.getLsbD 3,
          pv := v == 0x80, n := true, c := f.getLsbD 0 : FlagBits }.pack)

/-- Write F and A with a primitive's answer. -/
def State.setAluA (s : State) (p : Byte × Byte) : State := { s.writeFlags maskXY 0 p.2 with a := p.1 }

/-- `A <- add8(A, v, 0)` (R305). -/
def State.aluAdd (s : State) (v : Byte) : State := s.setAluA (add8 s.a v false)
/-- `A <- add8(A, v, F.C)` (R306). -/
def State.aluAdc (s : State) (v : Byte) : State := s.setAluA (add8 s.a v (s.flag .c))
/-- `A <- sub8(A, v, 0)` (R307). -/
def State.aluSub (s : State) (v : Byte) : State := s.setAluA (sub8 s.a v false)
/-- `A <- sub8(A, v, F.C)` (R308). -/
def State.aluSbc (s : State) (v : Byte) : State := s.setAluA (sub8 s.a v (s.flag .c))
/-- `A <- and8(A, v)` (R309). -/
def State.aluAnd (s : State) (v : Byte) : State := s.setAluA (and8 s.a v)
/-- `A <- xor8(A, v)` (R310). -/
def State.aluXor (s : State) (v : Byte) : State := s.setAluA (xor8 s.a v)
/-- `A <- or8(A, v)` (R311). -/
def State.aluOr (s : State) (v : Byte) : State := s.setAluA (or8 s.a v)
/-- `sub8(A, v, 0)` with the result discarded, then `setXY(v)` (R312). -/
def State.aluCp (s : State) (v : Byte) : State :=
  s.writeFlags maskXY 0
    { FlagBits.ofByte (sub8 s.a v false).2 with y := v.getLsbD 5, x := v.getLsbD 3 : FlagBits }.pack

/-- The result of `inc8` on `v`, in the state `s` (R303). -/
def State.incResult (s : State) (v : Byte) : Byte := (inc8 v s.f).1
/-- F after `inc8` (R303). -/
def State.incFlags (s : State) (v : Byte) : State := s.writeFlags maskXY 0 (inc8 v s.f).2
/-- The result of `dec8` on `v`, in the state `s` (R303). -/
def State.decResult (s : State) (v : Byte) : Byte := (dec8 v s.f).1
/-- F after `dec8` (R303). -/
def State.decFlags (s : State) (v : Byte) : State := s.writeFlags maskXY 0 (dec8 v s.f).2

/-- S, Z, P/V, Y and X of a byte moved into A, with H and N cleared and C unchanged: IN r,(C), LD A,I, LD A,R, RLD and RRD
(R473, R214, R215, R403, R404) differ only in P/V. -/
def State.moveFlags (s : State) (v : Byte) (pv : Bool) : State :=
  s.writeFlags maskXY 0
    { FlagBits.ofByte s.f with s := v.getLsbD 7, z := v == 0, y := v.getLsbD 5, h := false, x := v.getLsbD 3,
                               pv := pv, n := false : FlagBits }.pack

/-! ### 16-bit arithmetic (R370) -/

/-- `add16(a, b)` (R370): S, Z and P/V are `f`'s. -/
def add16 (a b : Word) (f : Byte) : Word × Byte :=
  let sum := a.toNat + b.toNat
  let res := BitVec.ofNat 16 sum
  (res, { FlagBits.ofByte f with y := res.getLsbD 13, h := low12 a + low12 b > 0x0FFF, x := res.getLsbD 11,
                                 n := false, c := sum > 0xFFFF : FlagBits }.pack)

/-- `adc16(a, b, c)` (R370). -/
def adc16 (a b : Word) (c : Bool) : Word × Byte :=
  let sum := a.toNat + b.toNat + c.toNat
  let res := BitVec.ofNat 16 sum
  (res, { s := res.getLsbD 15, z := res == 0, y := res.getLsbD 13, h := low12 a + low12 b + c.toNat > 0x0FFF,
          x := res.getLsbD 11, pv := a.getLsbD 15 == b.getLsbD 15 && res.getLsbD 15 != a.getLsbD 15,
          n := false, c := sum > 0xFFFF : FlagBits }.pack)

/-- `sbc16(a, b, c)` (R370). -/
def sbc16 (a b : Word) (c : Bool) : Word × Byte :=
  let res := a - b - BitVec.ofNat 16 c.toNat
  (res, { s := res.getLsbD 15, z := res == 0, y := res.getLsbD 13, h := low12 a < low12 b + c.toNat,
          x := res.getLsbD 11, pv := a.getLsbD 15 != b.getLsbD 15 && res.getLsbD 15 != a.getLsbD 15,
          n := true, c := a.toNat < b.toNat + c.toNat : FlagBits }.pack)

/-- `HL <- p.1`, F written with `p.2`. -/
def State.setAluHL (s : State) (p : Word × Byte) : State := (s.writeFlags maskXY 0 p.2).setHL p.1

/-! ### Rotates and shifts (R390) -/

/-- The rot index (R143). -/
inductive Rot where
  | rlc | rrc | rl | rr | sla | sra | sll | srl
  deriving DecidableEq, Repr

/-- `rot8(k, v, cin)`: the result and the carry out (R390). -/
def rot8 (k : Rot) (v : Byte) (cin : Bool) : Byte × Bool :=
  let left (b0 : Bool) : Byte := (v <<< 1) ||| (BitVec.ofBool b0).setWidth 8
  let right (b7 : Bool) : Byte := (v >>> 1) ||| ((BitVec.ofBool b7).setWidth 8 <<< 7)
  match k with
  | .rlc => (left (v.getLsbD 7), v.getLsbD 7)
  | .rrc => (right (v.getLsbD 0), v.getLsbD 0)
  | .rl => (left cin, v.getLsbD 7)
  | .rr => (right cin, v.getLsbD 0)
  | .sla => (left false, v.getLsbD 7)
  | .sra => (right (v.getLsbD 7), v.getLsbD 0)
  | .sll => (left true, v.getLsbD 7)
  | .srl => (right false, v.getLsbD 0)

/-- `rot8`'s result on `v` with F.C as the carry in. -/
def State.rotResult (s : State) (k : Rot) (v : Byte) : Byte := (rot8 k v (s.flag .c)).1

/-- `shiftflags(res, cout)` for `rot8` of `v` (R390). -/
def State.rotFlags (s : State) (k : Rot) (v : Byte) : State :=
  let p := rot8 k v (s.flag .c)
  s.writeFlags maskXY 0
    { FlagBits.ofByte (logicFlags p.1 false) with c := p.2 : FlagBits }.pack

/-- The accumulator rotates (R391 to R394): S, Z and P/V unchanged. -/
def State.rotA (s : State) (k : Rot) : State :=
  let p := rot8 k s.a (s.flag .c)
  { s.writeFlags maskXY 0
      { FlagBits.ofByte s.f with y := p.1.getLsbD 5, h := false, x := p.1.getLsbD 3, n := false, c := p.2 : FlagBits }.pack
    with a := p.1 }

/-! ### BIT (R420 to R422) -/

/-- The flags of BIT on bit `b` of `v`, with Y and X given: Z = P/V = not the bit, S the bit for b = 7, H 1, N 0, C
unchanged. -/
def bitFlags (f : Byte) (b : BitVec 3) (v : Byte) (y x : Bool) : Byte :=
  let t := v.getLsbD b.toNat
  { FlagBits.ofByte f with s := b.toNat == 7 && t, z := !t, y := y, h := true, x := x, pv := !t, n := false : FlagBits }.pack

/-- BIT of a register's value (R420): S and P/V are undocumented, Y and X the value's. -/
def State.bitReg (s : State) (b : BitVec 3) (v : Byte) : State :=
  s.writeFlags 0xAC 0 (bitFlags s.f b v (v.getLsbD 5) (v.getLsbD 3))

/-- BIT of the byte at HL (R421): Y and X are drawn under either policy. -/
def State.bitHl (s : State) (b : BitVec 3) (v : Byte) : State :=
  s.writeFlags 0x84 maskXY (bitFlags s.f b v (s.flag .y) (s.flag .x))

/-- BIT of the byte at the indexed address `ea` (R422): Y and X are those of hi(ea). -/
def State.bitIdx (s : State) (b : BitVec 3) (v : Byte) (ea : Word) : State :=
  s.writeFlags 0xAC 0 (bitFlags s.f b v ((hi ea).getLsbD 5) ((hi ea).getLsbD 3))

/-- `v | (1 << b)` (R424). -/
def setBit (b : BitVec 3) (v : Byte) : Byte := v ||| (1#8 <<< b.toNat)

/-- `v & ~(1 << b)` (R425). -/
def resBit (b : BitVec 3) (v : Byte) : Byte := v &&& ~~~(1#8 <<< b.toNat)

/-! ### Block I/O (R478) -/

/-- `ioflags(v, k)` with B already decremented (R478): every bit but Z is undocumented. -/
def State.ioFlags (s : State) (v : Byte) (k : Nat) : State :=
  s.writeFlags 0xBF 0
    { s := s.b.getLsbD 7, z := s.b == 0, y := s.b.getLsbD 5, h := k > 255, x := s.b.getLsbD 3,
      pv := parity (BitVec.ofNat 8 (k % 8) ^^^ s.b), n := v.getLsbD 7, c := k > 255 : FlagBits }.pack

end Sys2Proof.Machine
end

