-- ==== Sys2Proof/Machine/Alu16.lean ====
section
/-!
DEFINITION. Sys2Proof/Machine/Alu16.lean: the 16-bit arithmetic group (45_alu16.md, R371 to R378).
-/

namespace Sys2Proof.Machine

/-- `ADD HL,ss` (R371). -/
def execAddHlSs (ss : RP) (s : State) : Result :=
  let s := s.fetch 1 1
  (s.setAluHL (add16 s.hl (s.rp ss) s.f)).done 11

/-- `ADD IX,pp` (R372). -/
def execAddIxPp (x : Idx) (pp : XRP) (s : State) : Result :=
  let s := s.fetch 2 2
  let p := add16 (s.idx x) (s.xrp x pp) s.f
  ((s.writeFlags maskXY 0 p.2).setIdx x p.1).done 15

/-- `ADC HL,ss` (R373). -/
def execAdcHlSs (ss : RP) (s : State) : Result :=
  let s := s.fetch 2 2
  (s.setAluHL (adc16 s.hl (s.rp ss) (s.flag .c))).done 15

/-- `SBC HL,ss` (R374). -/
def execSbcHlSs (ss : RP) (s : State) : Result :=
  let s := s.fetch 2 2
  (s.setAluHL (sbc16 s.hl (s.rp ss) (s.flag .c))).done 15

/-- `INC ss` (R375). -/
def execIncSs (ss : RP) (s : State) : Result :=
  let s := s.fetch 1 1
  (s.setRP ss (s.rp ss + 1)).done 6

/-- `INC IX` (R376). -/
def execIncIx (x : Idx) (s : State) : Result :=
  let s := s.fetch 2 2
  (s.setIdx x (s.idx x + 1)).done 10

/-- `DEC ss` (R377). -/
def execDecSs (ss : RP) (s : State) : Result :=
  let s := s.fetch 1 1
  (s.setRP ss (s.rp ss - 1)).done 6

/-- `DEC IX` (R378). -/
def execDecIx (x : Idx) (s : State) : Result :=
  let s := s.fetch 2 2
  (s.setIdx x (s.idx x - 1)).done 10

end Sys2Proof.Machine
end

