-- ==== Sys2Proof/Machine/Alu8.lean ====
section
/-!
DEFINITION. Sys2Proof/Machine/Alu8.lean: the 8-bit arithmetic and logic group (43_alu8.md, R305 to R320).
-/

namespace Sys2Proof.Machine

/-- `ADD A,r` (R305). -/
def execAddAR (r : Reg8) (s : State) : Result :=
  let s := s.fetch 1 1
  (s.aluAdd (s.reg8 r)).done 4

/-- `ADD A,n` (R305). -/
def execAddAN (n : Byte) (s : State) : Result :=
  let s := s.fetch 2 1
  (s.aluAdd n).done 7

/-- `ADD A,(HL)` (R305). -/
def execAddAHlInd (s : State) : Result :=
  let s := s.fetch 1 1
  (s.aluAdd s.hlByte).done 7

/-- `ADD A,(IX+d)` (R305). -/
def execAddAIxd (x : Idx) (d : Byte) (s : State) : Result :=
  let s := s.fetch 3 2
  (s.aluAdd (s.idxByte x d)).done 19

/-- `ADD A,IXH/IXL` (R313). -/
def execAddAHalf (x : Idx) (p : Half) (s : State) : Result :=
  s.undocumented "ADD A,IXH/IXL" <|
    let s := s.fetch 2 2
    (s.aluAdd (s.half x p)).done 8

/-- `ADC A,r` (R306). -/
def execAdcAR (r : Reg8) (s : State) : Result :=
  let s := s.fetch 1 1
  (s.aluAdc (s.reg8 r)).done 4

/-- `ADC A,n` (R306). -/
def execAdcAN (n : Byte) (s : State) : Result :=
  let s := s.fetch 2 1
  (s.aluAdc n).done 7

/-- `ADC A,(HL)` (R306). -/
def execAdcAHlInd (s : State) : Result :=
  let s := s.fetch 1 1
  (s.aluAdc s.hlByte).done 7

/-- `ADC A,(IX+d)` (R306). -/
def execAdcAIxd (x : Idx) (d : Byte) (s : State) : Result :=
  let s := s.fetch 3 2
  (s.aluAdc (s.idxByte x d)).done 19

/-- `ADC A,IXH/IXL` (R313). -/
def execAdcAHalf (x : Idx) (p : Half) (s : State) : Result :=
  s.undocumented "ADC A,IXH/IXL" <|
    let s := s.fetch 2 2
    (s.aluAdc (s.half x p)).done 8

/-- `SUB r` (R307). -/
def execSubR (r : Reg8) (s : State) : Result :=
  let s := s.fetch 1 1
  (s.aluSub (s.reg8 r)).done 4

/-- `SUB n` (R307). -/
def execSubN (n : Byte) (s : State) : Result :=
  let s := s.fetch 2 1
  (s.aluSub n).done 7

/-- `SUB (HL)` (R307). -/
def execSubHlInd (s : State) : Result :=
  let s := s.fetch 1 1
  (s.aluSub s.hlByte).done 7

/-- `SUB (IX+d)` (R307). -/
def execSubIxd (x : Idx) (d : Byte) (s : State) : Result :=
  let s := s.fetch 3 2
  (s.aluSub (s.idxByte x d)).done 19

/-- `SUB IXH/IXL` (R313). -/
def execSubHalf (x : Idx) (p : Half) (s : State) : Result :=
  s.undocumented "SUB IXH/IXL" <|
    let s := s.fetch 2 2
    (s.aluSub (s.half x p)).done 8

/-- `SBC A,r` (R308). -/
def execSbcAR (r : Reg8) (s : State) : Result :=
  let s := s.fetch 1 1
  (s.aluSbc (s.reg8 r)).done 4

/-- `SBC A,n` (R308). -/
def execSbcAN (n : Byte) (s : State) : Result :=
  let s := s.fetch 2 1
  (s.aluSbc n).done 7

/-- `SBC A,(HL)` (R308). -/
def execSbcAHlInd (s : State) : Result :=
  let s := s.fetch 1 1
  (s.aluSbc s.hlByte).done 7

/-- `SBC A,(IX+d)` (R308). -/
def execSbcAIxd (x : Idx) (d : Byte) (s : State) : Result :=
  let s := s.fetch 3 2
  (s.aluSbc (s.idxByte x d)).done 19

/-- `SBC A,IXH/IXL` (R313). -/
def execSbcAHalf (x : Idx) (p : Half) (s : State) : Result :=
  s.undocumented "SBC A,IXH/IXL" <|
    let s := s.fetch 2 2
    (s.aluSbc (s.half x p)).done 8

/-- `AND r` (R309). -/
def execAndR (r : Reg8) (s : State) : Result :=
  let s := s.fetch 1 1
  (s.aluAnd (s.reg8 r)).done 4

/-- `AND n` (R309). -/
def execAndN (n : Byte) (s : State) : Result :=
  let s := s.fetch 2 1
  (s.aluAnd n).done 7

/-- `AND (HL)` (R309). -/
def execAndHlInd (s : State) : Result :=
  let s := s.fetch 1 1
  (s.aluAnd s.hlByte).done 7

/-- `AND (IX+d)` (R309). -/
def execAndIxd (x : Idx) (d : Byte) (s : State) : Result :=
  let s := s.fetch 3 2
  (s.aluAnd (s.idxByte x d)).done 19

/-- `AND IXH/IXL` (R313). -/
def execAndHalf (x : Idx) (p : Half) (s : State) : Result :=
  s.undocumented "AND IXH/IXL" <|
    let s := s.fetch 2 2
    (s.aluAnd (s.half x p)).done 8

/-- `XOR r` (R310). -/
def execXorR (r : Reg8) (s : State) : Result :=
  let s := s.fetch 1 1
  (s.aluXor (s.reg8 r)).done 4

/-- `XOR n` (R310). -/
def execXorN (n : Byte) (s : State) : Result :=
  let s := s.fetch 2 1
  (s.aluXor n).done 7

/-- `XOR (HL)` (R310). -/
def execXorHlInd (s : State) : Result :=
  let s := s.fetch 1 1
  (s.aluXor s.hlByte).done 7

/-- `XOR (IX+d)` (R310). -/
def execXorIxd (x : Idx) (d : Byte) (s : State) : Result :=
  let s := s.fetch 3 2
  (s.aluXor (s.idxByte x d)).done 19

/-- `XOR IXH/IXL` (R313). -/
def execXorHalf (x : Idx) (p : Half) (s : State) : Result :=
  s.undocumented "XOR IXH/IXL" <|
    let s := s.fetch 2 2
    (s.aluXor (s.half x p)).done 8

/-- `OR r` (R311). -/
def execOrR (r : Reg8) (s : State) : Result :=
  let s := s.fetch 1 1
  (s.aluOr (s.reg8 r)).done 4

/-- `OR n` (R311). -/
def execOrN (n : Byte) (s : State) : Result :=
  let s := s.fetch 2 1
  (s.aluOr n).done 7

/-- `OR (HL)` (R311). -/
def execOrHlInd (s : State) : Result :=
  let s := s.fetch 1 1
  (s.aluOr s.hlByte).done 7

/-- `OR (IX+d)` (R311). -/
def execOrIxd (x : Idx) (d : Byte) (s : State) : Result :=
  let s := s.fetch 3 2
  (s.aluOr (s.idxByte x d)).done 19

/-- `OR IXH/IXL` (R313). -/
def execOrHalf (x : Idx) (p : Half) (s : State) : Result :=
  s.undocumented "OR IXH/IXL" <|
    let s := s.fetch 2 2
    (s.aluOr (s.half x p)).done 8

/-- `CP r` (R312). -/
def execCpR (r : Reg8) (s : State) : Result :=
  let s := s.fetch 1 1
  (s.aluCp (s.reg8 r)).done 4

/-- `CP n` (R312). -/
def execCpN (n : Byte) (s : State) : Result :=
  let s := s.fetch 2 1
  (s.aluCp n).done 7

/-- `CP (HL)` (R312). -/
def execCpHlInd (s : State) : Result :=
  let s := s.fetch 1 1
  (s.aluCp s.hlByte).done 7

/-- `CP (IX+d)` (R312). -/
def execCpIxd (x : Idx) (d : Byte) (s : State) : Result :=
  let s := s.fetch 3 2
  (s.aluCp (s.idxByte x d)).done 19

/-- `CP IXH/IXL` (R313). -/
def execCpHalf (x : Idx) (p : Half) (s : State) : Result :=
  s.undocumented "CP IXH/IXL" <|
    let s := s.fetch 2 2
    (s.aluCp (s.half x p)).done 8

/-- `INC r` (R314). -/
def execIncR (r : Reg8) (s : State) : Result :=
  let s := s.fetch 1 1
  ((s.incFlags (s.reg8 r)).setReg8 r (s.incResult (s.reg8 r))).done 4

/-- `INC (HL)` (R315). -/
def execIncHlInd (s : State) : Result :=
  let s := s.fetch 1 1
  ((s.incFlags s.hlByte).memWrite s.hl (s.incResult s.hlByte)).done 11

/-- `INC (IX+d)` (R316). -/
def execIncIxd (x : Idx) (d : Byte) (s : State) : Result :=
  let s := s.fetch 3 2
  ((s.incFlags (s.idxByte x d)).memWrite (s.idxAddr x d) (s.incResult (s.idxByte x d))).done 23

/-- `INC IXH/IXL` (R320). -/
def execIncHalf (x : Idx) (p : Half) (s : State) : Result :=
  s.undocumented "INC IXH/IXL" <|
    let s := s.fetch 2 2
    ((s.incFlags (s.half x p)).setHalf x p (s.incResult (s.half x p))).done 8

/-- `DEC r` (R317). -/
def execDecR (r : Reg8) (s : State) : Result :=
  let s := s.fetch 1 1
  ((s.decFlags (s.reg8 r)).setReg8 r (s.decResult (s.reg8 r))).done 4

/-- `DEC (HL)` (R318). -/
def execDecHlInd (s : State) : Result :=
  let s := s.fetch 1 1
  ((s.decFlags s.hlByte).memWrite s.hl (s.decResult s.hlByte)).done 11

/-- `DEC (IX+d)` (R319). -/
def execDecIxd (x : Idx) (d : Byte) (s : State) : Result :=
  let s := s.fetch 3 2
  ((s.decFlags (s.idxByte x d)).memWrite (s.idxAddr x d) (s.decResult (s.idxByte x d))).done 23

/-- `DEC IXH/IXL` (R320). -/
def execDecHalf (x : Idx) (p : Half) (s : State) : Result :=
  s.undocumented "DEC IXH/IXL" <|
    let s := s.fetch 2 2
    ((s.decFlags (s.half x p)).setHalf x p (s.decResult (s.half x p))).done 8

end Sys2Proof.Machine
end

