-- ==== Sys2Proof/Machine/Bit.lean ====
section
/-!
DEFINITION. Sys2Proof/Machine/Bit.lean: the bit set, reset and test group (47_bit.md, R420 to R426).
-/

namespace Sys2Proof.Machine

/-- `BIT b,r` (R420). -/
def execBitBR (b : BitVec 3) (r : Reg8) (s : State) : Result :=
  let s := s.fetch 2 2
  (s.bitReg b (s.reg8 r)).done 8

/-- `BIT b,(HL)` (R421): Y and X are drawn. -/
def execBitBHlInd (b : BitVec 3) (s : State) : Result :=
  let s := s.fetch 2 2
  (s.bitHl b s.hlByte).done 12

/-- `BIT b,(IX+d)` (R422). -/
def execBitBIxd (x : Idx) (b : BitVec 3) (d : Byte) (s : State) : Result :=
  let s := s.fetch 4 2
  (s.bitIdx b (s.idxByte x d) (s.idxAddr x d)).done 20

/-- `BIT b,(IX+d) (alias)` (R423): the z field is ignored. -/
def execBitBIxdZ (x : Idx) (b : BitVec 3) (d : Byte) (_z : Reg8) (s : State) : Result :=
  s.undocumented "BIT b,(IX+d) (alias)" <|
    let s := s.fetch 4 2
    (s.bitIdx b (s.idxByte x d) (s.idxAddr x d)).done 20

/-- `SET b,r` (R424). -/
def execSetBR (b : BitVec 3) (r : Reg8) (s : State) : Result :=
  let s := s.fetch 2 2
  (s.setReg8 r (setBit b (s.reg8 r))).done 8

/-- `SET b,(HL)` (R424). -/
def execSetBHlInd (b : BitVec 3) (s : State) : Result :=
  let s := s.fetch 2 2
  (s.memWrite s.hl (setBit b s.hlByte)).done 15

/-- `SET b,(IX+d)` (R424). -/
def execSetBIxd (x : Idx) (b : BitVec 3) (d : Byte) (s : State) : Result :=
  let s := s.fetch 4 2
  (s.memWrite (s.idxAddr x d) (setBit b (s.idxByte x d))).done 23

/-- `SET b,(IX+d),r` (R426). -/
def execSetBIxdR (x : Idx) (b : BitVec 3) (d : Byte) (r : Reg8) (s : State) : Result :=
  s.undocumented "SET b,(IX+d),r" <|
    let s := s.fetch 4 2
    let v := setBit b (s.idxByte x d)
    ((s.memWrite (s.idxAddr x d) v).setReg8 r v).done 23

/-- `RES b,r` (R425). -/
def execResBR (b : BitVec 3) (r : Reg8) (s : State) : Result :=
  let s := s.fetch 2 2
  (s.setReg8 r (resBit b (s.reg8 r))).done 8

/-- `RES b,(HL)` (R425). -/
def execResBHlInd (b : BitVec 3) (s : State) : Result :=
  let s := s.fetch 2 2
  (s.memWrite s.hl (resBit b s.hlByte)).done 15

/-- `RES b,(IX+d)` (R425). -/
def execResBIxd (x : Idx) (b : BitVec 3) (d : Byte) (s : State) : Result :=
  let s := s.fetch 4 2
  (s.memWrite (s.idxAddr x d) (resBit b (s.idxByte x d))).done 23

/-- `RES b,(IX+d),r` (R426). -/
def execResBIxdR (x : Idx) (b : BitVec 3) (d : Byte) (r : Reg8) (s : State) : Result :=
  s.undocumented "RES b,(IX+d),r" <|
    let s := s.fetch 4 2
    let v := resBit b (s.idxByte x d)
    ((s.memWrite (s.idxAddr x d) v).setReg8 r v).done 23

end Sys2Proof.Machine
end

