-- ==== Sys2Proof/Machine/Block.lean ====
section
/-!
DEFINITION. Sys2Proof/Machine/Block.lean: the block transfer and block search group (42_block.md, R280 to R288). One iteration is one engine step.
-/

namespace Sys2Proof.Machine

/-- A block form's iteration repeats (R280): PC goes back to the form's ED byte, and the flag bits of `draws`, which
silicon takes from state the spec does not model, become free. -/
def State.repeatBlock (s : State) (draws : Byte) : State :=
  { s.writeFlags 0 draws s.f with pc := s.pc - 2 }

/-- End an iteration of a block form that repeats while `again` holds, on 21 T, and else ends on 16 T (R280). -/
def State.endIteration (s : State) (again : Bool) (draws : Byte) : Result :=
  if again then (s.repeatBlock draws).done 21 else s.done 16

/-- The body of LDI (`step` = 1) and LDD (`step` = -1) (R281, R283). -/
def State.blockLoad (s : State) (step : Word) : State :=
  let v := s.memRead s.hl
  let k := s.a + v
  let s := s.memWrite s.de v
  let s := ((s.setHL (s.hl + step)).setDE (s.de + step)).setBC (s.bc - 1)
  s.writeFlags maskXY 0
    { FlagBits.ofByte s.f with y := k.getLsbD 1, h := false, x := k.getLsbD 3, pv := s.bc != 0, n := false : FlagBits }.pack

/-- The byte `A - (HL)` that a search compares with zero (R285). -/
def State.searchResult (s : State) : Byte := s.a - s.memRead s.hl

/-- The body of CPI (`step` = 1) and CPD (`step` = -1) (R285, R287). -/
def State.blockSearch (s : State) (step : Word) : State :=
  let v := s.memRead s.hl
  let res := s.searchResult
  let half : Bool := low4 s.a < low4 v
  let k := res - BitVec.ofNat 8 half.toNat
  let s := (s.setHL (s.hl + step)).setBC (s.bc - 1)
  s.writeFlags maskXY 0
    { FlagBits.ofByte s.f with s := res.getLsbD 7, z := res == 0, y := k.getLsbD 1, h := half, x := k.getLsbD 3,
                               pv := s.bc != 0, n := true : FlagBits }.pack

/-- `LDI` (R281). -/
def execLdi (s : State) : Result :=
  let s := s.fetch 2 2
  (s.blockLoad 1).done 16

/-- `LDIR` (R282). -/
def execLdir (s : State) : Result :=
  let s := s.fetch 2 2
  let s := s.blockLoad 1
  s.endIteration (s.bc != 0) maskXY

/-- `LDD` (R283). -/
def execLdd (s : State) : Result :=
  let s := s.fetch 2 2
  (s.blockLoad (-1)).done 16

/-- `LDDR` (R284). -/
def execLddr (s : State) : Result :=
  let s := s.fetch 2 2
  let s := s.blockLoad (-1)
  s.endIteration (s.bc != 0) maskXY

/-- `CPI` (R285). -/
def execCpi (s : State) : Result :=
  let s := s.fetch 2 2
  (s.blockSearch 1).done 16

/-- `CPIR` (R286). -/
def execCpir (s : State) : Result :=
  let s := s.fetch 2 2
  let res := s.searchResult
  let s := s.blockSearch 1
  s.endIteration (s.bc != 0 && res != 0) maskXY

/-- `CPD` (R287). -/
def execCpd (s : State) : Result :=
  let s := s.fetch 2 2
  (s.blockSearch (-1)).done 16

/-- `CPDR` (R288). -/
def execCpdr (s : State) : Result :=
  let s := s.fetch 2 2
  let res := s.searchResult
  let s := s.blockSearch (-1)
  s.endIteration (s.bc != 0 && res != 0) maskXY

end Sys2Proof.Machine
end

