-- ==== Sys2Proof/Machine/Control.lean ====
section
/-!
DEFINITION. Sys2Proof/Machine/Control.lean: the general-purpose arithmetic and CPU control group (44_cpu_control.md, R340 to R356), and the prefix rows.
-/

namespace Sys2Proof.Machine

/-- DAA's result, H, and C from A and F.N, F.H and F.C (R340). -/
def daa8 (a : Byte) (n h c : Bool) : Byte × Bool × Bool :=
  let t : Byte := if h || low4 a > 9 then 0x06 else 0x00
  let high := c || a.toNat > 0x99
  let t := if high then t ||| 0x60 else t
  if n then (a - t, h && low4 a < 6, high) else (a + t, low4 a > 9, high)

/-- `DAA` (R340). -/
def execDaa (s : State) : Result :=
  let s := s.fetch 1 1
  let p := daa8 s.a (s.flag .n) (s.flag .h) (s.flag .c)
  let flags :=
    { s := p.1.getLsbD 7, z := p.1 == 0, y := p.1.getLsbD 5, h := p.2.1, x := p.1.getLsbD 3, pv := parity p.1,
      n := s.flag .n, c := p.2.2 : FlagBits }.pack
  (s.setAluA (p.1, flags)).done 4

/-- `CPL` (R341). -/
def execCpl (s : State) : Result :=
  let s := s.fetch 1 1
  let res := ~~~s.a
  let flags :=
    { FlagBits.ofByte s.f with y := res.getLsbD 5, h := true, x := res.getLsbD 3, n := true : FlagBits }.pack
  (s.setAluA (res, flags)).done 4

/-- `NEG` (R342). -/
def execNeg (s : State) : Result :=
  let s := s.fetch 2 2
  (s.setAluA (sub8 0 s.a false)).done 8

/-- `NEG (mirror)` (R343): any y but 0. -/
def execNegMirror (_y : BitVec 3) (s : State) : Result :=
  s.undocumented "NEG (mirror)" <|
    let s := s.fetch 2 2
    (s.setAluA (sub8 0 s.a false)).done 8

/-- `CCF` (R344): Y and X are drawn. -/
def execCcf (s : State) : Result :=
  let s := s.fetch 1 1
  (s.writeFlags 0 maskXY
     { FlagBits.ofByte s.f with h := s.flag .c, n := false, c := !s.flag .c : FlagBits }.pack).done 4

/-- `SCF` (R345): Y and X are drawn. -/
def execScf (s : State) : Result :=
  let s := s.fetch 1 1
  (s.writeFlags 0 maskXY { FlagBits.ofByte s.f with h := false, n := false, c := true : FlagBits }.pack).done 4

/-- `NOP` (R346). -/
def execNop (s : State) : Result :=
  let s := s.fetch 1 1
  s.done 4

/-- `NOP (ED hole)` (R347). -/
def execNopEdHole (_op : Byte) (s : State) : Result :=
  let s := s.fetch 2 2
  s.done 8

/-- `HALT` (R349): PC is already past the HALT. -/
def execHalt (s : State) : Result :=
  let s := s.fetch 1 1
  ({ s with halted := true }).done 4

/-- `DI` (R350). -/
def execDi (s : State) : Result :=
  let s := s.fetch 1 1
  ({ s with iff1 := false, iff2 := false }).done 4

/-- `EI` (R351): the one instruction after which `ei_shadow` is 1 (R521). -/
def execEi (s : State) : Result :=
  let s := s.fetch 1 1
  .next { s with iff1 := true, iff2 := true, eiShadow := true, clock := s.clock + 4 }

/-- `IM 0` (R355). -/
def execIm0 (s : State) : Result :=
  let s := s.fetch 2 2
  ({ s with im := .im0 }).done 8

/-- `IM 1` (R355). -/
def execIm1 (s : State) : Result :=
  let s := s.fetch 2 2
  ({ s with im := .im1 }).done 8

/-- `IM 2` (R355). -/
def execIm2 (s : State) : Result :=
  let s := s.fetch 2 2
  ({ s with im := .im2 }).done 8

/-- `IM (mirror)` (R356). -/
def execImMirror (y : BitVec 3) (s : State) : Result :=
  s.undocumented "IM (mirror)" <|
    let s := s.fetch 2 2
    ({ s with im := imField y }).done 8

/-- `prefix CB` (R148): the fetch of a CB prefix byte alone, 4 T and one M1 (log entry 7). -/
def execPrefixCB (s : State) : Result :=
  let s := s.fetch 1 1
  s.done 4

/-- `prefix ED` (R149): the fetch of an ED prefix byte alone, 4 T and one M1 (log entry 7). -/
def execPrefixED (s : State) : Result :=
  let s := s.fetch 1 1
  s.done 4

/-- `prefix DD` (R151): a wasted DD prefix byte, 4 T and one M1 (R153, R348). -/
def execPrefixDD (s : State) : Result :=
  let s := s.fetch 1 1
  s.done 4

/-- `prefix FD` (R151): a wasted FD prefix byte, 4 T and one M1 (R153, R348). -/
def execPrefixFD (s : State) : Result :=
  let s := s.fetch 1 1
  s.done 4

/-- `prefix DDCB/FDCB` (R154): the fetch of an index prefix byte and CB, 8 T and two M1 (R52, log entry 7). -/
def execPrefixDDCB (_x : Idx) (s : State) : Result :=
  let s := s.fetch 2 2
  s.done 8

end Sys2Proof.Machine
end

