-- ==== Sys2Proof/Machine/Io.lean ====
section
/-!
DEFINITION. Sys2Proof/Machine/Io.lean: the input and output group (49_io.md, R472 to R486).
-/

namespace Sys2Proof.Machine

/-- `IN A,(n)` (R472): the port address holds the old A. -/
def execInAN (n : Byte) (s : State) : Result :=
  let s := s.fetch 2 1
  ({ s.portRead (s.portAN n) with a := s.portValue (s.portAN n) }).done 11

/-- `IN r,(C)` (R473). -/
def execInRC (r : Reg8) (s : State) : Result :=
  let s := s.fetch 2 2
  let v := s.portValue s.bc
  (((s.portRead s.bc).moveFlags v (parity v)).setReg8 r v).done 12

/-- `IN F,(C)` (R474). -/
def execInFC (s : State) : Result :=
  s.undocumented "IN F,(C)" <|
    let s := s.fetch 2 2
    let v := s.portValue s.bc
    ((s.portRead s.bc).moveFlags v (parity v)).done 12

/-- `OUT (n),A` (R475). -/
def execOutNA (n : Byte) (s : State) : Result :=
  let s := s.fetch 2 1
  (s.portWrite (s.portAN n) s.a).done 11

/-- `OUT (C),r` (R476). -/
def execOutCR (r : Reg8) (s : State) : Result :=
  let s := s.fetch 2 2
  (s.portWrite s.bc (s.reg8 r)).done 12

/-- `OUT (C),0` (R477). -/
def execOutC0 (s : State) : Result :=
  s.undocumented "OUT (C),0" <|
    let s := s.fetch 2 2
    (s.portWrite s.bc s.cfg.outCZero).done 12

/-- The flag bits that are draws on an iteration of a repeating block I/O form that repeats: Y, H, X and P/V (R280). -/
def maskIoRepeat : Byte := 0x3C

/-- The body of INI (`step` = 1) and IND (`step` = -1) (R479, R481): the port is addressed by BC before B counts down; `k` adds
v and C + 1 or C - 1 modulo 256. -/
def State.blockIn (s : State) (step : Byte) : State :=
  let v := s.portValue s.bc
  let s := (s.portRead s.bc).memWrite s.hl v
  let s := { s.setHL (s.hl + sext8 step) with b := s.b - 1 }
  s.ioFlags v (v.toNat + (s.c + step).toNat)

/-- The body of OUTI (`step` = 1) and OUTD (`step` = -1) (R483, R485): the port is addressed by BC after B counts down; `k` adds
v and L after HL has stepped. -/
def State.blockOut (s : State) (step : Byte) : State :=
  let s := { s with b := s.b - 1 }
  let v := s.memRead s.hl
  let s := s.portWrite s.bc v
  let s := s.setHL (s.hl + sext8 step)
  s.ioFlags v (v.toNat + s.l.toNat)

/-- `INI` (R479). -/
def execIni (s : State) : Result :=
  let s := s.fetch 2 2
  (s.blockIn 1).done 16

/-- `INIR` (R480). -/
def execInir (s : State) : Result :=
  let s := s.fetch 2 2
  let s := s.blockIn 1
  s.endIteration (s.b != 0) maskIoRepeat

/-- `IND` (R481). -/
def execInd (s : State) : Result :=
  let s := s.fetch 2 2
  (s.blockIn (-1)).done 16

/-- `INDR` (R482). -/
def execIndr (s : State) : Result :=
  let s := s.fetch 2 2
  let s := s.blockIn (-1)
  s.endIteration (s.b != 0) maskIoRepeat

/-- `OUTI` (R483). -/
def execOuti (s : State) : Result :=
  let s := s.fetch 2 2
  (s.blockOut 1).done 16

/-- `OTIR` (R484). -/
def execOtir (s : State) : Result :=
  let s := s.fetch 2 2
  let s := s.blockOut 1
  s.endIteration (s.b != 0) maskIoRepeat

/-- `OUTD` (R485). -/
def execOutd (s : State) : Result :=
  let s := s.fetch 2 2
  (s.blockOut (-1)).done 16

/-- `OTDR` (R486). -/
def execOtdr (s : State) : Result :=
  let s := s.fetch 2 2
  let s := s.blockOut (-1)
  s.endIteration (s.b != 0) maskIoRepeat

end Sys2Proof.Machine
end

