-- ==== Sys2Proof/Machine/Jump.lean ====
section
/-!
DEFINITION. Sys2Proof/Machine/Jump.lean: the jump, call and return group (48_control.md, R440 to R459). PC is already past the instruction when a body runs.
-/

namespace Sys2Proof.Machine

/-- A conditional form's two outcomes (R451, R157): `taken` on `tTaken` T-states where the condition holds, else nothing on
`t`. -/
def State.branch (s : State) (holds : Bool) (taken : State) (t tTaken : Nat) : Result :=
  if holds then taken.done tTaken else s.done t

/-- `push(PC); pc <- target` (R447). -/
def State.call (s : State) (target : Word) : State := { s.push s.pc with pc := target }

/-- `pc <- pop()` (R449). -/
def State.ret (s : State) : State := { s.dropTop with pc := s.popped }

/-- `JP nn` (R440). -/
def execJpNn (nn : Word) (s : State) : Result :=
  let s := s.fetch 3 1
  ({ s with pc := nn }).done 10

/-- `JP cc,nn` (R441). -/
def execJpCcNn (cc : Cond) (nn : Word) (s : State) : Result :=
  let s := s.fetch 3 1
  s.branch (s.cond cc) { s with pc := nn } 10 10

/-- `JR e` (R442). -/
def execJr (e : Byte) (s : State) : Result :=
  let s := s.fetch 2 1
  ({ s with pc := s.relTarget e }).done 12

/-- `JR cc,e` (R443). -/
def execJrCc (cc : JrCond) (e : Byte) (s : State) : Result :=
  let s := s.fetch 2 1
  s.branch (s.cond cc.cond) { s with pc := s.relTarget e } 7 12

/-- `JP (HL)` (R444): no memory is read. -/
def execJpHl (s : State) : Result :=
  let s := s.fetch 1 1
  ({ s with pc := s.hl }).done 4

/-- `JP (IX)` (R445). -/
def execJpIx (x : Idx) (s : State) : Result :=
  let s := s.fetch 2 2
  ({ s with pc := s.idx x }).done 8

/-- `DJNZ e` (R446). -/
def execDjnz (e : Byte) (s : State) : Result :=
  let s := s.fetch 2 1
  let s := { s with b := s.b - 1 }
  s.branch (s.b != 0) { s with pc := s.relTarget e } 8 13

/-- `CALL nn` (R447). -/
def execCallNn (nn : Word) (s : State) : Result :=
  let s := s.fetch 3 1
  (s.call nn).done 17

/-- `CALL cc,nn` (R448). -/
def execCallCcNn (cc : Cond) (nn : Word) (s : State) : Result :=
  let s := s.fetch 3 1
  s.branch (s.cond cc) (s.call nn) 10 17

/-- `RET` (R449). -/
def execRet (s : State) : Result :=
  let s := s.fetch 1 1
  s.ret.done 10

/-- `RET cc` (R450). -/
def execRetCc (cc : Cond) (s : State) : Result :=
  let s := s.fetch 1 1
  s.branch (s.cond cc) s.ret 5 11

/-- `RETN` (R456). -/
def execRetn (s : State) : Result :=
  let s := s.fetch 2 2
  s.returnFromInterrupt.done 14

/-- `RETI` (R457). -/
def execReti (s : State) : Result :=
  let s := s.fetch 2 2
  s.returnFromInterrupt.done 14

/-- `RETN (mirror)` (R459). -/
def execRetnMirror (_y : BitVec 3) (s : State) : Result :=
  s.undocumented "RETN (mirror)" <|
    let s := s.fetch 2 2
    s.returnFromInterrupt.done 14

/-- `RST p` (R458). -/
def execRst (t : BitVec 3) (s : State) : Result :=
  let s := s.fetch 1 1
  (s.call (BitVec.ofNat 16 (t.toNat * 8))).done 11

end Sys2Proof.Machine
end

