-- ==== Sys2Proof/Machine/Load16.lean ====
section
/-!
DEFINITION. Sys2Proof/Machine/Load16.lean: the 16-bit load group and the exchange group (41_load16_exchange.md, R240 to R264).
-/

namespace Sys2Proof.Machine

/-- `LD dd,nn` (R240). -/
def execLdDdNn (dd : RP) (nn : Word) (s : State) : Result :=
  let s := s.fetch 3 1
  (s.setRP dd nn).done 10

/-- `LD IX,nn` (R241). -/
def execLdIxNn (x : Idx) (nn : Word) (s : State) : Result :=
  let s := s.fetch 4 2
  (s.setIdx x nn).done 14

/-- `LD HL,(nn)` (R242). -/
def execLdHlNnInd (nn : Word) (s : State) : Result :=
  let s := s.fetch 3 1
  (s.setHL (s.memRead16 nn)).done 16

/-- `LD dd,(nn)` (R243). -/
def execLdDdNnInd (dd : RP) (nn : Word) (s : State) : Result :=
  let s := s.fetch 4 2
  (s.setRP dd (s.memRead16 nn)).done 20

/-- `LD IX,(nn)` (R244). -/
def execLdIxNnInd (x : Idx) (nn : Word) (s : State) : Result :=
  let s := s.fetch 4 2
  (s.setIdx x (s.memRead16 nn)).done 20

/-- `LD (nn),HL` (R245). -/
def execLdNnIndHl (nn : Word) (s : State) : Result :=
  let s := s.fetch 3 1
  (s.memWrite16 nn s.hl).done 16

/-- `LD (nn),dd` (R246). -/
def execLdNnIndDd (dd : RP) (nn : Word) (s : State) : Result :=
  let s := s.fetch 4 2
  (s.memWrite16 nn (s.rp dd)).done 20

/-- `LD (nn),IX` (R247). -/
def execLdNnIndIx (x : Idx) (nn : Word) (s : State) : Result :=
  let s := s.fetch 4 2
  (s.memWrite16 nn (s.idx x)).done 20

/-- `LD SP,HL` (R248). -/
def execLdSpHl (s : State) : Result :=
  let s := s.fetch 1 1
  ({ s with sp := s.hl }).done 6

/-- `LD SP,IX` (R249). -/
def execLdSpIx (x : Idx) (s : State) : Result :=
  let s := s.fetch 2 2
  ({ s with sp := s.idx x }).done 10

/-- `PUSH qq` (R250). -/
def execPushQq (qq : RP2) (s : State) : Result :=
  let s := s.fetch 1 1
  (s.push (s.rp2 qq)).done 11

/-- `PUSH IX` (R251). -/
def execPushIx (x : Idx) (s : State) : Result :=
  let s := s.fetch 2 2
  (s.push (s.idx x)).done 15

/-- `POP qq` (R252): `POP AF` loads all 8 bits of F. -/
def execPopQq (qq : RP2) (s : State) : Result :=
  let s := s.fetch 1 1
  (s.dropTop.setRP2 qq s.popped).done 10

/-- `POP IX` (R253). -/
def execPopIx (x : Idx) (s : State) : Result :=
  let s := s.fetch 2 2
  (s.dropTop.setIdx x s.popped).done 14

/-- `EX AF,AF'` (R260). -/
def execExAfAf (s : State) : Result :=
  let s := s.fetch 1 1
  ({ s with a := s.a', f := s.f', a' := s.a, f' := s.f }).done 4

/-- `EXX` (R261). -/
def execExx (s : State) : Result :=
  let s := s.fetch 1 1
  ({ s with b := s.b', c := s.c', d := s.d', e := s.e', h := s.h', l := s.l',
               b' := s.b, c' := s.c, d' := s.d, e' := s.e, h' := s.h, l' := s.l }).done 4

/-- `EX DE,HL` (R262). -/
def execExDeHl (s : State) : Result :=
  let s := s.fetch 1 1
  ({ s with d := s.h, e := s.l, h := s.d, l := s.e }).done 4

/-- `EX (SP),w` on memory: the high byte to SP + 1, then the low byte to SP; SP is unchanged (R263, R264). -/
def State.storeTop (s : State) (w : Word) : State := (s.memWrite (s.sp + 1) (hi w)).memWrite s.sp (lo w)

/-- `EX (SP),HL` (R263). -/
def execExSpHl (s : State) : Result :=
  let s := s.fetch 1 1
  ((s.storeTop s.hl).setHL s.popped).done 19

/-- `EX (SP),IX` (R264). -/
def execExSpIx (x : Idx) (s : State) : Result :=
  let s := s.fetch 2 2
  ((s.storeTop (s.idx x)).setIdx x s.popped).done 23

end Sys2Proof.Machine
end

