-- ==== Sys2Proof/Machine/Load8.lean ====
section
/-!
DEFINITION. Sys2Proof/Machine/Load8.lean: the 8-bit load group (40_load8.md, R200 to R219).
-/

namespace Sys2Proof.Machine

/-- `LD r,r'` (R200). -/
def execLdRR (y : Reg8) (z : Reg8) (s : State) : Result :=
  let s := s.fetch 1 1
  (s.setReg8 y (s.reg8 z)).done 4

/-- `LD r,n` (R201). -/
def execLdRN (r : Reg8) (n : Byte) (s : State) : Result :=
  let s := s.fetch 2 1
  (s.setReg8 r n).done 7

/-- `LD r,(HL)` (R202). -/
def execLdRHlInd (r : Reg8) (s : State) : Result :=
  let s := s.fetch 1 1
  (s.setReg8 r s.hlByte).done 7

/-- `LD (HL),r` (R203). -/
def execLdHlIndR (r : Reg8) (s : State) : Result :=
  let s := s.fetch 1 1
  (s.memWrite s.hl (s.reg8 r)).done 7

/-- `LD (HL),n` (R204). -/
def execLdHlIndN (n : Byte) (s : State) : Result :=
  let s := s.fetch 2 1
  (s.memWrite s.hl n).done 10

/-- `LD r,(IX+d)` (R205): the plain register, never an index half. -/
def execLdRIxd (x : Idx) (r : Reg8) (d : Byte) (s : State) : Result :=
  let s := s.fetch 3 2
  (s.setReg8 r (s.idxByte x d)).done 19

/-- `LD (IX+d),r` (R206). -/
def execLdIxdR (x : Idx) (d : Byte) (r : Reg8) (s : State) : Result :=
  let s := s.fetch 3 2
  (s.memWrite (s.idxAddr x d) (s.reg8 r)).done 19

/-- `LD (IX+d),n` (R207). -/
def execLdIxdN (x : Idx) (d : Byte) (n : Byte) (s : State) : Result :=
  let s := s.fetch 4 2
  (s.memWrite (s.idxAddr x d) n).done 19

/-- `LD A,(BC)` (R208). -/
def execLdABcInd (s : State) : Result :=
  let s := s.fetch 1 1
  ({ s with a := s.memRead s.bc }).done 7

/-- `LD A,(DE)` (R209). -/
def execLdADeInd (s : State) : Result :=
  let s := s.fetch 1 1
  ({ s with a := s.memRead s.de }).done 7

/-- `LD A,(nn)` (R210). -/
def execLdANnInd (nn : Word) (s : State) : Result :=
  let s := s.fetch 3 1
  ({ s with a := s.memRead nn }).done 13

/-- `LD (BC),A` (R211). -/
def execLdBcIndA (s : State) : Result :=
  let s := s.fetch 1 1
  (s.memWrite s.bc s.a).done 7

/-- `LD (DE),A` (R212). -/
def execLdDeIndA (s : State) : Result :=
  let s := s.fetch 1 1
  (s.memWrite s.de s.a).done 7

/-- `LD (nn),A` (R213). -/
def execLdNnIndA (nn : Word) (s : State) : Result :=
  let s := s.fetch 3 1
  (s.memWrite nn s.a).done 13

/-- `LD A,I` (R214): P/V is IFF2. -/
def execLdAI (s : State) : Result :=
  let s := s.fetch 2 2
  ({ s.moveFlags s.i s.iff2 with a := s.i }).done 9

/-- `LD A,R` (R215): R is read after this instruction's own M1 increments. -/
def execLdARfsh (s : State) : Result :=
  let s := s.fetch 2 2
  ({ s.moveFlags s.r s.iff2 with a := s.r }).done 9

/-- `LD I,A` (R216). -/
def execLdIA (s : State) : Result :=
  let s := s.fetch 2 2
  ({ s with i := s.a }).done 9

/-- `LD R,A` (R217): the write comes after the M1 increments, all 8 bits. -/
def execLdRfshA (s : State) : Result :=
  let s := s.fetch 2 2
  ({ s with r := s.a }).done 9

/-- `LD r,r' (index halves)` (R218). -/
def execLdHalves (x : Idx) (y : XReg8) (z : XReg8) (s : State) : Result :=
  s.undocumented "LD r,r' (index halves)" <|
    let s := s.fetch 2 2
    (s.setXReg8 x y (s.xreg8 x z)).done 8

/-- `LD IXH/IXL,n` (R219). -/
def execLdHalfN (x : Idx) (p : Half) (n : Byte) (s : State) : Result :=
  s.undocumented "LD IXH/IXL,n" <|
    let s := s.fetch 3 2
    (s.setHalf x p n).done 11

end Sys2Proof.Machine
end

