-- ==== Sys2Proof/Machine/Rotate.lean ====
section
/-!
DEFINITION. Sys2Proof/Machine/Rotate.lean: the rotate and shift group (46_rotate_shift.md, R391 to R405).
-/

namespace Sys2Proof.Machine

/-- `RLCA` (R391). -/
def execRlca (s : State) : Result :=
  let s := s.fetch 1 1
  (s.rotA .rlc).done 4

/-- `RRCA` (R392). -/
def execRrca (s : State) : Result :=
  let s := s.fetch 1 1
  (s.rotA .rrc).done 4

/-- `RLA` (R393). -/
def execRla (s : State) : Result :=
  let s := s.fetch 1 1
  (s.rotA .rl).done 4

/-- `RRA` (R394). -/
def execRra (s : State) : Result :=
  let s := s.fetch 1 1
  (s.rotA .rr).done 4

/-- `RLC r` (R395). -/
def execRlcR (r : Reg8) (s : State) : Result :=
  let s := s.fetch 2 2
  ((s.rotFlags .rlc (s.reg8 r)).setReg8 r (s.rotResult .rlc (s.reg8 r))).done 8

/-- `RLC (HL)` (R395). -/
def execRlcHlInd (s : State) : Result :=
  let s := s.fetch 2 2
  ((s.rotFlags .rlc s.hlByte).memWrite s.hl (s.rotResult .rlc s.hlByte)).done 15

/-- `RLC (IX+d)` (R395). -/
def execRlcIxd (x : Idx) (d : Byte) (s : State) : Result :=
  let s := s.fetch 4 2
  ((s.rotFlags .rlc (s.idxByte x d)).memWrite (s.idxAddr x d) (s.rotResult .rlc (s.idxByte x d))).done 23

/-- `RRC r` (R396). -/
def execRrcR (r : Reg8) (s : State) : Result :=
  let s := s.fetch 2 2
  ((s.rotFlags .rrc (s.reg8 r)).setReg8 r (s.rotResult .rrc (s.reg8 r))).done 8

/-- `RRC (HL)` (R396). -/
def execRrcHlInd (s : State) : Result :=
  let s := s.fetch 2 2
  ((s.rotFlags .rrc s.hlByte).memWrite s.hl (s.rotResult .rrc s.hlByte)).done 15

/-- `RRC (IX+d)` (R396). -/
def execRrcIxd (x : Idx) (d : Byte) (s : State) : Result :=
  let s := s.fetch 4 2
  ((s.rotFlags .rrc (s.idxByte x d)).memWrite (s.idxAddr x d) (s.rotResult .rrc (s.idxByte x d))).done 23

/-- `RL r` (R397). -/
def execRlR (r : Reg8) (s : State) : Result :=
  let s := s.fetch 2 2
  ((s.rotFlags .rl (s.reg8 r)).setReg8 r (s.rotResult .rl (s.reg8 r))).done 8

/-- `RL (HL)` (R397). -/
def execRlHlInd (s : State) : Result :=
  let s := s.fetch 2 2
  ((s.rotFlags .rl s.hlByte).memWrite s.hl (s.rotResult .rl s.hlByte)).done 15

/-- `RL (IX+d)` (R397). -/
def execRlIxd (x : Idx) (d : Byte) (s : State) : Result :=
  let s := s.fetch 4 2
  ((s.rotFlags .rl (s.idxByte x d)).memWrite (s.idxAddr x d) (s.rotResult .rl (s.idxByte x d))).done 23

/-- `RR r` (R398). -/
def execRrR (r : Reg8) (s : State) : Result :=
  let s := s.fetch 2 2
  ((s.rotFlags .rr (s.reg8 r)).setReg8 r (s.rotResult .rr (s.reg8 r))).done 8

/-- `RR (HL)` (R398). -/
def execRrHlInd (s : State) : Result :=
  let s := s.fetch 2 2
  ((s.rotFlags .rr s.hlByte).memWrite s.hl (s.rotResult .rr s.hlByte)).done 15

/-- `RR (IX+d)` (R398). -/
def execRrIxd (x : Idx) (d : Byte) (s : State) : Result :=
  let s := s.fetch 4 2
  ((s.rotFlags .rr (s.idxByte x d)).memWrite (s.idxAddr x d) (s.rotResult .rr (s.idxByte x d))).done 23

/-- `SLA r` (R399). -/
def execSlaR (r : Reg8) (s : State) : Result :=
  let s := s.fetch 2 2
  ((s.rotFlags .sla (s.reg8 r)).setReg8 r (s.rotResult .sla (s.reg8 r))).done 8

/-- `SLA (HL)` (R399). -/
def execSlaHlInd (s : State) : Result :=
  let s := s.fetch 2 2
  ((s.rotFlags .sla s.hlByte).memWrite s.hl (s.rotResult .sla s.hlByte)).done 15

/-- `SLA (IX+d)` (R399). -/
def execSlaIxd (x : Idx) (d : Byte) (s : State) : Result :=
  let s := s.fetch 4 2
  ((s.rotFlags .sla (s.idxByte x d)).memWrite (s.idxAddr x d) (s.rotResult .sla (s.idxByte x d))).done 23

/-- `SRA r` (R400). -/
def execSraR (r : Reg8) (s : State) : Result :=
  let s := s.fetch 2 2
  ((s.rotFlags .sra (s.reg8 r)).setReg8 r (s.rotResult .sra (s.reg8 r))).done 8

/-- `SRA (HL)` (R400). -/
def execSraHlInd (s : State) : Result :=
  let s := s.fetch 2 2
  ((s.rotFlags .sra s.hlByte).memWrite s.hl (s.rotResult .sra s.hlByte)).done 15

/-- `SRA (IX+d)` (R400). -/
def execSraIxd (x : Idx) (d : Byte) (s : State) : Result :=
  let s := s.fetch 4 2
  ((s.rotFlags .sra (s.idxByte x d)).memWrite (s.idxAddr x d) (s.rotResult .sra (s.idxByte x d))).done 23

/-- `SLL r` (R401). -/
def execSllR (r : Reg8) (s : State) : Result :=
  s.undocumented "SLL r" <|
    let s := s.fetch 2 2
    ((s.rotFlags .sll (s.reg8 r)).setReg8 r (s.rotResult .sll (s.reg8 r))).done 8

/-- `SLL (HL)` (R401). -/
def execSllHlInd (s : State) : Result :=
  s.undocumented "SLL (HL)" <|
    let s := s.fetch 2 2
    ((s.rotFlags .sll s.hlByte).memWrite s.hl (s.rotResult .sll s.hlByte)).done 15

/-- `SLL (IX+d)` (R401). -/
def execSllIxd (x : Idx) (d : Byte) (s : State) : Result :=
  s.undocumented "SLL (IX+d)" <|
    let s := s.fetch 4 2
    ((s.rotFlags .sll (s.idxByte x d)).memWrite (s.idxAddr x d) (s.rotResult .sll (s.idxByte x d))).done 23

/-- `SRL r` (R402). -/
def execSrlR (r : Reg8) (s : State) : Result :=
  let s := s.fetch 2 2
  ((s.rotFlags .srl (s.reg8 r)).setReg8 r (s.rotResult .srl (s.reg8 r))).done 8

/-- `SRL (HL)` (R402). -/
def execSrlHlInd (s : State) : Result :=
  let s := s.fetch 2 2
  ((s.rotFlags .srl s.hlByte).memWrite s.hl (s.rotResult .srl s.hlByte)).done 15

/-- `SRL (IX+d)` (R402). -/
def execSrlIxd (x : Idx) (d : Byte) (s : State) : Result :=
  let s := s.fetch 4 2
  ((s.rotFlags .srl (s.idxByte x d)).memWrite (s.idxAddr x d) (s.rotResult .srl (s.idxByte x d))).done 23

/-- The DDCB and FDCB rotates with a register copy (R405): memory at X + d and the plain register `r` both receive the
result. -/
def State.rotCopy (s : State) (k : Rot) (x : Idx) (d : Byte) (r : Reg8) : State :=
  let v := s.idxByte x d
  ((s.rotFlags k v).memWrite (s.idxAddr x d) (s.rotResult k v)).setReg8 r (s.rotResult k v)

/-- `RLC (IX+d),r` (R405). -/
def execRlcIxdR (x : Idx) (d : Byte) (r : Reg8) (s : State) : Result :=
  s.undocumented "RLC (IX+d),r" <|
    let s := s.fetch 4 2
    (s.rotCopy .rlc x d r).done 23

/-- `RRC (IX+d),r` (R405). -/
def execRrcIxdR (x : Idx) (d : Byte) (r : Reg8) (s : State) : Result :=
  s.undocumented "RRC (IX+d),r" <|
    let s := s.fetch 4 2
    (s.rotCopy .rrc x d r).done 23

/-- `RL (IX+d),r` (R405). -/
def execRlIxdR (x : Idx) (d : Byte) (r : Reg8) (s : State) : Result :=
  s.undocumented "RL (IX+d),r" <|
    let s := s.fetch 4 2
    (s.rotCopy .rl x d r).done 23

/-- `RR (IX+d),r` (R405). -/
def execRrIxdR (x : Idx) (d : Byte) (r : Reg8) (s : State) : Result :=
  s.undocumented "RR (IX+d),r" <|
    let s := s.fetch 4 2
    (s.rotCopy .rr x d r).done 23

/-- `SLA (IX+d),r` (R405). -/
def execSlaIxdR (x : Idx) (d : Byte) (r : Reg8) (s : State) : Result :=
  s.undocumented "SLA (IX+d),r" <|
    let s := s.fetch 4 2
    (s.rotCopy .sla x d r).done 23

/-- `SRA (IX+d),r` (R405). -/
def execSraIxdR (x : Idx) (d : Byte) (r : Reg8) (s : State) : Result :=
  s.undocumented "SRA (IX+d),r" <|
    let s := s.fetch 4 2
    (s.rotCopy .sra x d r).done 23

/-- `SLL (IX+d),r` (R405). -/
def execSllIxdR (x : Idx) (d : Byte) (r : Reg8) (s : State) : Result :=
  s.undocumented "SLL (IX+d),r" <|
    let s := s.fetch 4 2
    (s.rotCopy .sll x d r).done 23

/-- `SRL (IX+d),r` (R405). -/
def execSrlIxdR (x : Idx) (d : Byte) (r : Reg8) (s : State) : Result :=
  s.undocumented "SRL (IX+d),r" <|
    let s := s.fetch 4 2
    (s.rotCopy .srl x d r).done 23

/-- `RLD` (R403). -/
def execRld (s : State) : Result :=
  let s := s.fetch 2 2
  let v := s.hlByte
  let a := (s.a &&& 0xF0) ||| (v >>> 4)
  ({ (s.moveFlags a (parity a)).memWrite s.hl ((v <<< 4) ||| (s.a &&& 0x0F)) with a := a }).done 18

/-- `RRD` (R404). -/
def execRrd (s : State) : Result :=
  let s := s.fetch 2 2
  let v := s.hlByte
  let a := (s.a &&& 0xF0) ||| (v &&& 0x0F)
  ({ (s.moveFlags a (parity a)).memWrite s.hl (((s.a &&& 0x0F) <<< 4) ||| (v >>> 4)) with a := a }).done 18

end Sys2Proof.Machine
end

