-- ==== Sys2Proof/Machine/Dispatch.lean ====
section
/-!
DEFINITION. Sys2Proof/Machine/Dispatch.lean: exec, one arm per constructor of Instr. What exec runs is the whole instruction
step of R521 for an instruction without wasted prefix bytes, from the boundary before its first byte.
-/

namespace Sys2Proof.Machine

def exec (i : Instr) (s : State) : Host.Outcome State Fault Refusal :=
  match i with
  | .prefixCB => Sys2Proof.Machine.execPrefixCB s
  | .prefixDD => Sys2Proof.Machine.execPrefixDD s
  | .prefixED => Sys2Proof.Machine.execPrefixED s
  | .prefixFD => Sys2Proof.Machine.execPrefixFD s
  | .prefixDDCB x => Sys2Proof.Machine.execPrefixDDCB x s
  | .nop => Sys2Proof.Machine.execNop s
  | .ldDdNn dd nn => Sys2Proof.Machine.execLdDdNn dd nn s
  | .ldBcIndA => Sys2Proof.Machine.execLdBcIndA s
  | .incSs ss => Sys2Proof.Machine.execIncSs ss s
  | .incR r => Sys2Proof.Machine.execIncR r s
  | .decR r => Sys2Proof.Machine.execDecR r s
  | .ldRN r n => Sys2Proof.Machine.execLdRN r n s
  | .rlca => Sys2Proof.Machine.execRlca s
  | .exAfAf => Sys2Proof.Machine.execExAfAf s
  | .addHlSs ss => Sys2Proof.Machine.execAddHlSs ss s
  | .ldABcInd => Sys2Proof.Machine.execLdABcInd s
  | .decSs ss => Sys2Proof.Machine.execDecSs ss s
  | .rrca => Sys2Proof.Machine.execRrca s
  | .djnz e => Sys2Proof.Machine.execDjnz e s
  | .ldDeIndA => Sys2Proof.Machine.execLdDeIndA s
  | .rla => Sys2Proof.Machine.execRla s
  | .jr e => Sys2Proof.Machine.execJr e s
  | .ldADeInd => Sys2Proof.Machine.execLdADeInd s
  | .rra => Sys2Proof.Machine.execRra s
  | .jrCc cc e => Sys2Proof.Machine.execJrCc cc e s
  | .ldNnIndHl nn => Sys2Proof.Machine.execLdNnIndHl nn s
  | .daa => Sys2Proof.Machine.execDaa s
  | .ldHlNnInd nn => Sys2Proof.Machine.execLdHlNnInd nn s
  | .cpl => Sys2Proof.Machine.execCpl s
  | .ldNnIndA nn => Sys2Proof.Machine.execLdNnIndA nn s
  | .incHlInd => Sys2Proof.Machine.execIncHlInd s
  | .decHlInd => Sys2Proof.Machine.execDecHlInd s
  | .ldHlIndN n => Sys2Proof.Machine.execLdHlIndN n s
  | .scf => Sys2Proof.Machine.execScf s
  | .ldANnInd nn => Sys2Proof.Machine.execLdANnInd nn s
  | .ccf => Sys2Proof.Machine.execCcf s
  | .ldRR y z => Sys2Proof.Machine.execLdRR y z s
  | .ldRHlInd r => Sys2Proof.Machine.execLdRHlInd r s
  | .ldHlIndR r => Sys2Proof.Machine.execLdHlIndR r s
  | .halt => Sys2Proof.Machine.execHalt s
  | .addAR r => Sys2Proof.Machine.execAddAR r s
  | .addAHlInd => Sys2Proof.Machine.execAddAHlInd s
  | .adcAR r => Sys2Proof.Machine.execAdcAR r s
  | .adcAHlInd => Sys2Proof.Machine.execAdcAHlInd s
  | .subR r => Sys2Proof.Machine.execSubR r s
  | .subHlInd => Sys2Proof.Machine.execSubHlInd s
  | .sbcAR r => Sys2Proof.Machine.execSbcAR r s
  | .sbcAHlInd => Sys2Proof.Machine.execSbcAHlInd s
  | .andR r => Sys2Proof.Machine.execAndR r s
  | .andHlInd => Sys2Proof.Machine.execAndHlInd s
  | .xorR r => Sys2Proof.Machine.execXorR r s
  | .xorHlInd => Sys2Proof.Machine.execXorHlInd s
  | .orR r => Sys2Proof.Machine.execOrR r s
  | .orHlInd => Sys2Proof.Machine.execOrHlInd s
  | .cpR r => Sys2Proof.Machine.execCpR r s
  | .cpHlInd => Sys2Proof.Machine.execCpHlInd s
  | .retCc cc => Sys2Proof.Machine.execRetCc cc s
  | .popQq qq => Sys2Proof.Machine.execPopQq qq s
  | .jpCcNn cc nn => Sys2Proof.Machine.execJpCcNn cc nn s
  | .jpNn nn => Sys2Proof.Machine.execJpNn nn s
  | .callCcNn cc nn => Sys2Proof.Machine.execCallCcNn cc nn s
  | .pushQq qq => Sys2Proof.Machine.execPushQq qq s
  | .addAN n => Sys2Proof.Machine.execAddAN n s
  | .rst t => Sys2Proof.Machine.execRst t s
  | .ret => Sys2Proof.Machine.execRet s
  | .callNn nn => Sys2Proof.Machine.execCallNn nn s
  | .adcAN n => Sys2Proof.Machine.execAdcAN n s
  | .outNA n => Sys2Proof.Machine.execOutNA n s
  | .subN n => Sys2Proof.Machine.execSubN n s
  | .exx => Sys2Proof.Machine.execExx s
  | .inAN n => Sys2Proof.Machine.execInAN n s
  | .sbcAN n => Sys2Proof.Machine.execSbcAN n s
  | .exSpHl => Sys2Proof.Machine.execExSpHl s
  | .andN n => Sys2Proof.Machine.execAndN n s
  | .jpHl => Sys2Proof.Machine.execJpHl s
  | .exDeHl => Sys2Proof.Machine.execExDeHl s
  | .xorN n => Sys2Proof.Machine.execXorN n s
  | .di => Sys2Proof.Machine.execDi s
  | .orN n => Sys2Proof.Machine.execOrN n s
  | .ldSpHl => Sys2Proof.Machine.execLdSpHl s
  | .ei => Sys2Proof.Machine.execEi s
  | .cpN n => Sys2Proof.Machine.execCpN n s
  | .rlcR r => Sys2Proof.Machine.execRlcR r s
  | .rlcHlInd => Sys2Proof.Machine.execRlcHlInd s
  | .rrcR r => Sys2Proof.Machine.execRrcR r s
  | .rrcHlInd => Sys2Proof.Machine.execRrcHlInd s
  | .rlR r => Sys2Proof.Machine.execRlR r s
  | .rlHlInd => Sys2Proof.Machine.execRlHlInd s
  | .rrR r => Sys2Proof.Machine.execRrR r s
  | .rrHlInd => Sys2Proof.Machine.execRrHlInd s
  | .slaR r => Sys2Proof.Machine.execSlaR r s
  | .slaHlInd => Sys2Proof.Machine.execSlaHlInd s
  | .sraR r => Sys2Proof.Machine.execSraR r s
  | .sraHlInd => Sys2Proof.Machine.execSraHlInd s
  | .sllR r => Sys2Proof.Machine.execSllR r s
  | .sllHlInd => Sys2Proof.Machine.execSllHlInd s
  | .srlR r => Sys2Proof.Machine.execSrlR r s
  | .srlHlInd => Sys2Proof.Machine.execSrlHlInd s
  | .bitBR b r => Sys2Proof.Machine.execBitBR b r s
  | .bitBHlInd b => Sys2Proof.Machine.execBitBHlInd b s
  | .resBR b r => Sys2Proof.Machine.execResBR b r s
  | .resBHlInd b => Sys2Proof.Machine.execResBHlInd b s
  | .setBR b r => Sys2Proof.Machine.execSetBR b r s
  | .setBHlInd b => Sys2Proof.Machine.execSetBHlInd b s
  | .nopEdHole op => Sys2Proof.Machine.execNopEdHole op s
  | .inRC r => Sys2Proof.Machine.execInRC r s
  | .outCR r => Sys2Proof.Machine.execOutCR r s
  | .sbcHlSs ss => Sys2Proof.Machine.execSbcHlSs ss s
  | .ldNnIndDd dd nn => Sys2Proof.Machine.execLdNnIndDd dd nn s
  | .neg => Sys2Proof.Machine.execNeg s
  | .retn => Sys2Proof.Machine.execRetn s
  | .im0 => Sys2Proof.Machine.execIm0 s
  | .ldIA => Sys2Proof.Machine.execLdIA s
  | .adcHlSs ss => Sys2Proof.Machine.execAdcHlSs ss s
  | .ldDdNnInd dd nn => Sys2Proof.Machine.execLdDdNnInd dd nn s
  | .negMirror y => Sys2Proof.Machine.execNegMirror y s
  | .reti => Sys2Proof.Machine.execReti s
  | .imMirror y => Sys2Proof.Machine.execImMirror y s
  | .ldRfshA => Sys2Proof.Machine.execLdRfshA s
  | .retnMirror y => Sys2Proof.Machine.execRetnMirror y s
  | .im1 => Sys2Proof.Machine.execIm1 s
  | .ldAI => Sys2Proof.Machine.execLdAI s
  | .im2 => Sys2Proof.Machine.execIm2 s
  | .ldARfsh => Sys2Proof.Machine.execLdARfsh s
  | .rrd => Sys2Proof.Machine.execRrd s
  | .rld => Sys2Proof.Machine.execRld s
  | .inFC => Sys2Proof.Machine.execInFC s
  | .outC0 => Sys2Proof.Machine.execOutC0 s
  | .ldi => Sys2Proof.Machine.execLdi s
  | .cpi => Sys2Proof.Machine.execCpi s
  | .ini => Sys2Proof.Machine.execIni s
  | .outi => Sys2Proof.Machine.execOuti s
  | .ldd => Sys2Proof.Machine.execLdd s
  | .cpd => Sys2Proof.Machine.execCpd s
  | .ind => Sys2Proof.Machine.execInd s
  | .outd => Sys2Proof.Machine.execOutd s
  | .ldir => Sys2Proof.Machine.execLdir s
  | .cpir => Sys2Proof.Machine.execCpir s
  | .inir => Sys2Proof.Machine.execInir s
  | .otir => Sys2Proof.Machine.execOtir s
  | .lddr => Sys2Proof.Machine.execLddr s
  | .cpdr => Sys2Proof.Machine.execCpdr s
  | .indr => Sys2Proof.Machine.execIndr s
  | .otdr => Sys2Proof.Machine.execOtdr s
  | .addIxPp x pp => Sys2Proof.Machine.execAddIxPp x pp s
  | .ldIxNn x nn => Sys2Proof.Machine.execLdIxNn x nn s
  | .ldNnIndIx x nn => Sys2Proof.Machine.execLdNnIndIx x nn s
  | .incIx x => Sys2Proof.Machine.execIncIx x s
  | .incHalf x p => Sys2Proof.Machine.execIncHalf x p s
  | .decHalf x p => Sys2Proof.Machine.execDecHalf x p s
  | .ldHalfN x p n => Sys2Proof.Machine.execLdHalfN x p n s
  | .ldIxNnInd x nn => Sys2Proof.Machine.execLdIxNnInd x nn s
  | .decIx x => Sys2Proof.Machine.execDecIx x s
  | .incIxd x d => Sys2Proof.Machine.execIncIxd x d s
  | .decIxd x d => Sys2Proof.Machine.execDecIxd x d s
  | .ldIxdN x d n => Sys2Proof.Machine.execLdIxdN x d n s
  | .ldHalves x y z => Sys2Proof.Machine.execLdHalves x y z s
  | .ldRIxd x r d => Sys2Proof.Machine.execLdRIxd x r d s
  | .ldIxdR x d r => Sys2Proof.Machine.execLdIxdR x d r s
  | .addAHalf x p => Sys2Proof.Machine.execAddAHalf x p s
  | .addAIxd x d => Sys2Proof.Machine.execAddAIxd x d s
  | .adcAHalf x p => Sys2Proof.Machine.execAdcAHalf x p s
  | .adcAIxd x d => Sys2Proof.Machine.execAdcAIxd x d s
  | .subHalf x p => Sys2Proof.Machine.execSubHalf x p s
  | .subIxd x d => Sys2Proof.Machine.execSubIxd x d s
  | .sbcAHalf x p => Sys2Proof.Machine.execSbcAHalf x p s
  | .sbcAIxd x d => Sys2Proof.Machine.execSbcAIxd x d s
  | .andHalf x p => Sys2Proof.Machine.execAndHalf x p s
  | .andIxd x d => Sys2Proof.Machine.execAndIxd x d s
  | .xorHalf x p => Sys2Proof.Machine.execXorHalf x p s
  | .xorIxd x d => Sys2Proof.Machine.execXorIxd x d s
  | .orHalf x p => Sys2Proof.Machine.execOrHalf x p s
  | .orIxd x d => Sys2Proof.Machine.execOrIxd x d s
  | .cpHalf x p => Sys2Proof.Machine.execCpHalf x p s
  | .cpIxd x d => Sys2Proof.Machine.execCpIxd x d s
  | .popIx x => Sys2Proof.Machine.execPopIx x s
  | .exSpIx x => Sys2Proof.Machine.execExSpIx x s
  | .pushIx x => Sys2Proof.Machine.execPushIx x s
  | .jpIx x => Sys2Proof.Machine.execJpIx x s
  | .ldSpIx x => Sys2Proof.Machine.execLdSpIx x s
  | .rlcIxdR x d r => Sys2Proof.Machine.execRlcIxdR x d r s
  | .rlcIxd x d => Sys2Proof.Machine.execRlcIxd x d s
  | .rrcIxdR x d r => Sys2Proof.Machine.execRrcIxdR x d r s
  | .rrcIxd x d => Sys2Proof.Machine.execRrcIxd x d s
  | .rlIxdR x d r => Sys2Proof.Machine.execRlIxdR x d r s
  | .rlIxd x d => Sys2Proof.Machine.execRlIxd x d s
  | .rrIxdR x d r => Sys2Proof.Machine.execRrIxdR x d r s
  | .rrIxd x d => Sys2Proof.Machine.execRrIxd x d s
  | .slaIxdR x d r => Sys2Proof.Machine.execSlaIxdR x d r s
  | .slaIxd x d => Sys2Proof.Machine.execSlaIxd x d s
  | .sraIxdR x d r => Sys2Proof.Machine.execSraIxdR x d r s
  | .sraIxd x d => Sys2Proof.Machine.execSraIxd x d s
  | .sllIxdR x d r => Sys2Proof.Machine.execSllIxdR x d r s
  | .sllIxd x d => Sys2Proof.Machine.execSllIxd x d s
  | .srlIxdR x d r => Sys2Proof.Machine.execSrlIxdR x d r s
  | .srlIxd x d => Sys2Proof.Machine.execSrlIxd x d s
  | .bitBIxdZ x b d z => Sys2Proof.Machine.execBitBIxdZ x b d z s
  | .bitBIxd x b d => Sys2Proof.Machine.execBitBIxd x b d s
  | .resBIxdR x b d r => Sys2Proof.Machine.execResBIxdR x b d r s
  | .resBIxd x b d => Sys2Proof.Machine.execResBIxd x b d s
  | .setBIxdR x b d r => Sys2Proof.Machine.execSetBIxdR x b d r s
  | .setBIxd x b d => Sys2Proof.Machine.execSetBIxd x b d s

end Sys2Proof.Machine
end

