-- ==== Sys2Proof/Machine/Unset.lean ====
section
/-!
DEFINITION. Sys2Proof/Machine/Unset.lean: UNSET_READ (R5, R62): which registers and flag bits an instruction reads and writes,
the fault that a read of a marked one ends in, and the marks after a step. Under UNSET_READ = draw nothing here has an
effect. The granularity is log entry 10.
-/

namespace Sys2Proof.Machine

/-! ### Locations of operands -/

/-- The location of a plain register. -/
def locOfReg : Reg8 → Loc
  | .b => .b | .c => .c | .d => .d | .e => .e | .h => .h | .l => .l | .a => .a

/-- The location of an index half (R48). -/
def locOfHalf : Idx → Half → Loc
  | .ix, .xh => .ixh | .ix, .xl => .ixl | .iy, .xh => .iyh | .iy, .xl => .iyl

/-- The two halves of an index register. -/
def locsOfIdx (x : Idx) : List Loc := [locOfHalf x .xh, locOfHalf x .xl]

/-- The location of an operand of R218. -/
def locOfXReg (x : Idx) : XReg8 → Loc
  | .b => .b | .c => .c | .d => .d | .e => .e | .a => .a
  | .xh => locOfHalf x .xh | .xl => locOfHalf x .xl

/-- The locations of a pair of table rp. -/
def locsOfRP : RP → List Loc
  | .bc => [.b, .c] | .de => [.d, .e] | .hl => [.h, .l] | .sp => [.sp]

/-- The eight bits of F. -/
def locsOfF : List Loc := [.f .s, .f .z, .f .y, .f .h, .f .x, .f .pv, .f .n, .f .c]

/-- The bits of F but C. -/
def locsOfFNotC : List Loc := [.f .s, .f .z, .f .y, .f .h, .f .x, .f .pv, .f .n]

/-- The locations of a pair of table rp2. -/
def locsOfRP2 : RP2 → List Loc
  | .bc => [.b, .c] | .de => [.d, .e] | .hl => [.h, .l] | .af => .a :: locsOfF

/-- The locations of the operand pp of R372. -/
def locsOfXRP (x : Idx) : XRP → List Loc
  | .bc => [.b, .c] | .de => [.d, .e] | .self => locsOfIdx x | .sp => [.sp]

/-- The flag bit a condition reads (R146). -/
def locOfCond : Cond → Loc
  | .nz | .z => .f .z
  | .nc | .c => .f .c
  | .po | .pe => .f .pv
  | .p | .m => .f .s

/-! ### What an instruction reads -/

/-- The locations whose marks an instruction's rule reads (R47, R62). `EX AF,AF'` and `EXX` read none: marks move with the values.
The fault names the first marked one of the list. DESIGN CHOICE (log entry 10): where several are marked, R62 does not say which
one UnsetRead names. The list is in the order in which the rule's pseudocode writes its reads, left to right; where that
gives none, the high half of a pair or index register comes before the low one, A before the bits of F, those from bit 7
down, and SP before what is pushed. -/
def readLocs (i : Instr) (s : State) : List Loc :=
  match i with
  | .prefixCB | .prefixDD | .prefixED | .prefixFD | .nop | .nopEdHole _ | .halt | .di | .ei | .im0 | .im1 | .im2
  | .imMirror _ | .prefixDDCB _ => []
  | .exAfAf | .exx | .scf | .ldAI | .ldARfsh => []
  | .ldDdNn _ _ | .ldIxNn _ _ | .ldRN _ _ | .ldHalfN _ _ _ | .jpNn _ | .jr _ => []
  | .ldHlNnInd _ | .ldDdNnInd _ _ | .ldIxNnInd _ _ | .ldANnInd _ => []
  -- 8-bit loads
  | .ldRR _ z => [locOfReg z]
  | .ldRHlInd _ | .ldHlIndN _ => [.h, .l]
  | .ldHlIndR r => [.h, .l, locOfReg r]
  | .ldRIxd x _ _ | .ldIxdN x _ _ => locsOfIdx x
  | .ldIxdR x _ r => locsOfIdx x ++ [locOfReg r]
  | .ldABcInd => [.b, .c]
  | .ldADeInd => [.d, .e]
  | .ldBcIndA => [.b, .c, .a]
  | .ldDeIndA => [.d, .e, .a]
  | .ldNnIndA _ | .ldIA | .ldRfshA => [.a]
  | .ldHalves x _ z => [locOfXReg x z]
  -- 16-bit loads, stack, exchanges
  | .ldNnIndHl _ | .ldSpHl => [.h, .l]
  | .ldNnIndDd dd _ => locsOfRP dd
  | .ldNnIndIx x _ | .ldSpIx x => locsOfIdx x
  | .pushQq qq => .sp :: locsOfRP2 qq
  | .pushIx x | .exSpIx x => .sp :: locsOfIdx x
  | .popQq _ | .popIx _ => [.sp]
  | .exDeHl => [.h, .l, .d, .e]
  | .exSpHl => [.sp, .h, .l]
  -- block transfer and search
  | .ldi | .ldir | .ldd | .lddr => [.h, .l, .d, .e, .b, .c, .a]
  | .cpi | .cpir | .cpd | .cpdr => [.h, .l, .a, .b, .c]
  -- 8-bit arithmetic and logic
  | .addAR r | .subR r | .andR r | .xorR r | .orR r => [.a, locOfReg r]
  | .addAN _ | .subN _ | .andN _ | .xorN _ | .orN _ | .cpN _ => [.a]
  | .addAHlInd | .subHlInd | .andHlInd | .xorHlInd | .orHlInd => [.a, .h, .l]
  | .addAIxd x _ | .subIxd x _ | .andIxd x _ | .xorIxd x _ | .orIxd x _ => .a :: locsOfIdx x
  | .addAHalf x p | .subHalf x p | .andHalf x p | .xorHalf x p | .orHalf x p => [.a, locOfHalf x p]
  -- CP reads its operand before A (R312)
  | .cpR r => [locOfReg r, .a]
  | .cpHlInd => [.h, .l, .a]
  | .cpIxd x _ => locsOfIdx x ++ [.a]
  | .cpHalf x p => [locOfHalf x p, .a]
  | .adcAR r | .sbcAR r => [.a, locOfReg r, .f .c]
  | .adcAN _ | .sbcAN _ => [.a, .f .c]
  | .adcAHlInd | .sbcAHlInd => [.a, .h, .l, .f .c]
  | .adcAIxd x _ | .sbcAIxd x _ => .a :: locsOfIdx x ++ [.f .c]
  | .adcAHalf x p | .sbcAHalf x p => [.a, locOfHalf x p, .f .c]
  | .incR r | .decR r => [locOfReg r]
  | .incHlInd | .decHlInd => [.h, .l]
  | .incIxd x _ | .decIxd x _ => locsOfIdx x
  | .incHalf x p | .decHalf x p => [locOfHalf x p]
  -- CPU control
  | .daa => [.f .c, .f .h, .a, .f .n]
  | .cpl | .neg | .negMirror _ => [.a]
  | .ccf => [.f .c]
  -- 16-bit arithmetic
  | .addHlSs ss => [.h, .l] ++ locsOfRP ss
  | .adcHlSs ss | .sbcHlSs ss => [.h, .l] ++ locsOfRP ss ++ [.f .c]
  | .addIxPp x pp => locsOfIdx x ++ locsOfXRP x pp
  | .incSs ss | .decSs ss => locsOfRP ss
  | .incIx x | .decIx x => locsOfIdx x
  -- rotates and shifts: only RL, RR, RLA and RRA read C (R47)
  | .rlca | .rrca => [.a]
  | .rla | .rra => [.a, .f .c]
  | .rlcR r | .rrcR r | .slaR r | .sraR r | .sllR r | .srlR r => [locOfReg r]
  | .rlR r | .rrR r => [locOfReg r, .f .c]
  | .rlcHlInd | .rrcHlInd | .slaHlInd | .sraHlInd | .sllHlInd | .srlHlInd => [.h, .l]
  | .rlHlInd | .rrHlInd => [.h, .l, .f .c]
  | .rlcIxd x _ | .rrcIxd x _ | .slaIxd x _ | .sraIxd x _ | .sllIxd x _ | .srlIxd x _ => locsOfIdx x
  | .rlIxd x _ | .rrIxd x _ => locsOfIdx x ++ [.f .c]
  | .rlcIxdR x _ _ | .rrcIxdR x _ _ | .slaIxdR x _ _ | .sraIxdR x _ _ | .sllIxdR x _ _ | .srlIxdR x _ _ => locsOfIdx x
  | .rlIxdR x _ _ | .rrIxdR x _ _ => locsOfIdx x ++ [.f .c]
  | .rld | .rrd => [.h, .l, .a]
  -- bit operations
  | .bitBR _ r | .setBR _ r | .resBR _ r => [locOfReg r]
  | .bitBHlInd _ | .setBHlInd _ | .resBHlInd _ => [.h, .l]
  | .bitBIxd x _ _ | .setBIxd x _ _ | .resBIxd x _ _ => locsOfIdx x
  | .bitBIxdZ x _ _ _ | .setBIxdR x _ _ _ | .resBIxdR x _ _ _ => locsOfIdx x
  -- jumps, calls, returns: a conditional form that is not taken reads no stack pointer
  | .jpCcNn cc _ => [locOfCond cc]
  | .jrCc cc _ => [locOfCond cc.cond]
  | .jpHl => [.h, .l]
  | .jpIx x => locsOfIdx x
  | .djnz _ => [.b]
  | .callNn _ | .ret | .retn | .reti | .retnMirror _ | .rst _ => [.sp]
  | .callCcNn cc _ | .retCc cc => locOfCond cc :: if s.cond cc then [.sp] else []
  -- ports
  | .inAN _ | .outNA _ => [.a]
  | .inRC _ | .inFC | .outC0 => [.b, .c]
  | .outCR r => [.b, .c, locOfReg r]
  | .ini | .inir | .ind | .indr => [.b, .c, .h, .l]
  | .outi | .otir | .outd | .otdr => [.b, .h, .l, .c]

/-! ### What an instruction writes -/

/-- The locations whose marks an instruction clears. A location that the instruction also reads carries no mark when it runs,
so it may be missing here. -/
def writtenLocs (i : Instr) : List Loc :=
  match i with
  | .prefixCB | .prefixDD | .prefixED | .prefixFD | .nop | .nopEdHole _ | .halt | .di | .ei | .im0 | .im1 | .im2
  | .imMirror _ | .prefixDDCB _ => []
  | .exAfAf | .exx | .exDeHl => []
  | .ldHlIndR _ | .ldHlIndN _ | .ldIxdR _ _ _ | .ldIxdN _ _ _ | .ldBcIndA | .ldDeIndA | .ldNnIndA _ | .ldIA | .ldRfshA
  | .ldNnIndHl _ | .ldNnIndDd _ _ | .ldNnIndIx _ _ | .pushQq _ | .pushIx _ | .exSpHl | .exSpIx _ => []
  | .ldRR r _ | .ldRN r _ | .ldRHlInd r | .ldRIxd _ r _ => [locOfReg r]
  | .ldABcInd | .ldADeInd | .ldANnInd _ | .inAN _ => [.a]
  | .ldAI | .ldARfsh => .a :: locsOfFNotC
  | .ldHalves x y _ => [locOfXReg x y]
  | .ldHalfN x p _ => [locOfHalf x p]
  | .ldDdNn dd _ | .ldDdNnInd dd _ => locsOfRP dd
  | .ldHlNnInd _ => [.h, .l]
  | .ldIxNn x _ | .ldIxNnInd x _ | .popIx x => locsOfIdx x
  | .ldSpHl | .ldSpIx _ => [.sp]
  | .popQq qq => locsOfRP2 qq
  | .ldi | .ldir | .ldd | .lddr => [.f .y, .f .h, .f .x, .f .pv, .f .n]
  | .cpi | .cpir | .cpd | .cpdr => locsOfFNotC
  | .addAR _ | .subR _ | .andR _ | .xorR _ | .orR _ | .cpR _ | .adcAR _ | .sbcAR _ => locsOfF
  | .addAN _ | .subN _ | .andN _ | .xorN _ | .orN _ | .cpN _ | .adcAN _ | .sbcAN _ => locsOfF
  | .addAHlInd | .subHlInd | .andHlInd | .xorHlInd | .orHlInd | .cpHlInd | .adcAHlInd | .sbcAHlInd => locsOfF
  | .addAIxd _ _ | .subIxd _ _ | .andIxd _ _ | .xorIxd _ _ | .orIxd _ _ | .cpIxd _ _ | .adcAIxd _ _ | .sbcAIxd _ _ => locsOfF
  | .addAHalf _ _ | .subHalf _ _ | .andHalf _ _ | .xorHalf _ _ | .orHalf _ _ | .cpHalf _ _ | .adcAHalf _ _
  | .sbcAHalf _ _ => locsOfF
  | .incR _ | .decR _ | .incHlInd | .decHlInd | .incIxd _ _ | .decIxd _ _ | .incHalf _ _ | .decHalf _ _ => locsOfFNotC
  | .daa => [.f .s, .f .z, .f .y, .f .h, .f .x, .f .pv, .f .c]
  | .cpl => [.f .y, .f .h, .f .x, .f .n]
  | .neg | .negMirror _ => locsOfF
  | .ccf | .scf => [.f .y, .f .h, .f .x, .f .n, .f .c]
  | .addHlSs _ | .addIxPp _ _ => [.f .y, .f .h, .f .x, .f .n, .f .c]
  | .adcHlSs _ | .sbcHlSs _ => locsOfF
  | .incSs _ | .decSs _ | .incIx _ | .decIx _ => []
  | .rlca | .rrca | .rla | .rra => [.f .y, .f .h, .f .x, .f .n, .f .c]
  | .rlcR _ | .rrcR _ | .rlR _ | .rrR _ | .slaR _ | .sraR _ | .sllR _ | .srlR _ => locsOfF
  | .rlcHlInd | .rrcHlInd | .rlHlInd | .rrHlInd | .slaHlInd | .sraHlInd | .sllHlInd | .srlHlInd => locsOfF
  | .rlcIxd _ _ | .rrcIxd _ _ | .rlIxd _ _ | .rrIxd _ _ | .slaIxd _ _ | .sraIxd _ _ | .sllIxd _ _ | .srlIxd _ _ => locsOfF
  | .rlcIxdR _ _ r | .rrcIxdR _ _ r | .rlIxdR _ _ r | .rrIxdR _ _ r | .slaIxdR _ _ r | .sraIxdR _ _ r | .sllIxdR _ _ r
  | .srlIxdR _ _ r => locOfReg r :: locsOfF
  | .rld | .rrd => locsOfFNotC
  | .bitBR _ _ | .bitBHlInd _ | .bitBIxd _ _ _ | .bitBIxdZ _ _ _ _ => locsOfFNotC
  | .setBR _ _ | .resBR _ _ | .setBHlInd _ | .resBHlInd _ | .setBIxd _ _ _ | .resBIxd _ _ _ => []
  | .setBIxdR _ _ _ r | .resBIxdR _ _ _ r => [locOfReg r]
  | .jpNn _ | .jpCcNn _ _ | .jr _ | .jrCc _ _ | .jpHl | .jpIx _ | .djnz _ | .callNn _ | .callCcNn _ _ | .ret | .retCc _
  | .retn | .reti | .retnMirror _ | .rst _ => []
  | .inRC r => locOfReg r :: locsOfFNotC
  | .inFC => locsOfFNotC
  | .outNA _ | .outCR _ | .outC0 => []
  | .ini | .inir | .ind | .indr | .outi | .otir | .outd | .otdr => locsOfF

/-! ### The marks after a step -/

/-- Where `EX AF,AF'` moves a mark (R62). -/
def swapAF : Loc → Loc
  | .a => .a' | .a' => .a
  | .f k => .f' k | .f' k => .f k
  | x => x

/-- Where `EXX` moves a mark (R62). -/
def swapX : Loc → Loc
  | .b => .b' | .c => .c' | .d => .d' | .e => .e' | .h => .h' | .l => .l'
  | .b' => .b | .c' => .c | .d' => .d | .e' => .e | .h' => .h | .l' => .l
  | x => x

/-- The marks after an instruction that ran: a write clears them, the exchanges move them (R62). -/
def marksAfter (i : Instr) (marks : List Loc) : List Loc :=
  match i with
  | .exAfAf => marks.map swapAF
  | .exx => marks.map swapX
  | i => marks.filter (fun x => !(writtenLocs i).contains x)

/-- The guard of UNSET_READ = fault around a step that reads `locs` in the state `s` and answers `res` (R62): a read of a marked
location ends in the fault, before anything is written; else `marks` gives the marks after. A refusal comes first, since
decode and R531 refuse before the body. Under UNSET_READ = draw it does nothing. -/
def State.guardUnset (s : State) (locs : List Loc) (marks : List Loc → List Loc) (res : Result) : Result :=
  match s.cfg.unsetRead with
  | .draw => res
  | .fault =>
    match res with
    | .next t =>
      match locs.find? (fun x => s.unset.contains x) with
      | some x => .fault (.invariant (.unsetRead x))
      | none => .next { t with unset := marks s.unset }
    | res => res

end Sys2Proof.Machine
end

