-- ==== Sys2Proof/Machine/Engine.lean ====
section
/-!
DEFINITION. Sys2Proof/Machine/Engine.lean: one boundary's step (R520, R521, R601): a warm reset, an NMI acknowledge, a maskable
acknowledge, a halted tick or an instruction.
-/

namespace Sys2Proof.Machine

/-- The clock of a next state moved on; a stop is left as it is. -/
def Result.addClock (n : Nat) : Result → Result
  | .next t => .next { t with clock := t.clock + n }
  | res => res

/-- Run a decoded instruction (R521): the wasted prefix bytes move PC and R, `exec` does the rest, and each wasted byte costs 4
T-states more (R153, R348). The guard is UNSET_READ's (R62). -/
def State.runDecoded (s : State) (d : Decoded) : Result :=
  s.guardUnset (readLocs d.instr s) (marksAfter d.instr)
    (Result.addClock (4 * d.wasted.length) (exec d.instr (s.skipPrefixes d.wasted.length)))

/-- What decode reads at PC (R141). -/
def State.decodeAtPc (s : State) : DecodeResult := decodeFrom s.memRead s.pc

/-- The instruction step (R521). -/
def State.instrStep (s : State) : Result :=
  match s.decodeAtPc with
  | .ok d => s.runDecoded d
  | .prefixHang => .fault .prefixHang

/-- What one engine step does once the boundary's sample is taken (R520): the order is NMI, maskable interrupt, halted tick,
instruction (R532). -/
def State.engineBody (s : State) (sample : IntSample) : Result :=
  if s.nmiLatch then s.guardUnset [.sp] id (.next s.nmiAck)
  else if s.acceptsInt sample then s.guardUnset [.sp] id (s.intAck sample.intData)
  else if s.halted then .next s.haltTick
  else s.instrStep

/-- The sampled NMI edge goes to the latch (R511, R520). -/
def State.latchNmi (s : State) (sample : IntSample) : State :=
  { s with nmiLatch := s.nmiLatch || sample.nmiEdge }

/-- The engine step (R520), from a state with no mark set. -/
def State.engine (s : State) : Result := (s.tick.latchNmi s.intNow).engineBody s.intNow

/-- One step of a boundary: RESET_ENV is sampled first (R601); else a marked state takes no step and answers its mark (R64, R501,
R502); else the engine step. -/
def State.boundary (s : State) : Result :=
  if s.resetNow then .next s.tick.warmReset
  else
    match s.faulted, s.refused with
    | some r, _ => .fault (.invariant r)
    | none, some r => .refused r
    | none, none => s.engine

/-- The state after a boundary's step that stops, with the mark that the stop sets (R501, R502): a stop writes nothing else.
PrefixHang sets no mark (R503). DESIGN CHOICE (log entry 12): R501, R502 and R601 do not say whether the boundary's samples of
INT_ENV and RESET_ENV are then used up; here they are not, so the inputs stay as they were. -/
def State.settle (s : State) : Result → State
  | .next t => t
  | .fault (.invariant r) => { s with faulted := some (s.faulted.getD r) }
  | .fault .prefixHang => s
  | .refused r => { s with refused := some (s.refused.getD r) }

end Sys2Proof.Machine
end

