-- ==== Sys2Proof/Machine/Step.lean ====
section
/-!
DEFINITION. Sys2Proof/Machine/Step.lean: the step of the machine, one boundary's step of Machine/Engine.lean.
-/

namespace Sys2Proof.Machine

/-- One step: the boundary's step (R520, R601). -/
def step (s : State) : Host.Outcome State Fault Refusal := s.boundary

/-- `s` with the instruction whose low `nbits` bits are `w` (bits above zero) stored where the next step fetches it: at PC,
past ROM_REGION, with no reset, interrupt, HALT or mark in the way. This stands for the host's INIT_MEMORY (log entry 11). -/
def State.withFetchWord (s : State) (nbits w : Nat) : State :=
  { s with
    mem := Memory.place s.mem s.pc ((List.range (nbits / 8 + 4)).map (tableByte nbits w))
    halted := false, nmiLatch := false, faulted := none, refused := none
    env := { s.env with int := .schedule [], reset := .schedule [] } }

end Sys2Proof.Machine
end

