-- ==== Sys2Proof/Machine/Disasm.lean ====
section
/-!
DEFINITION. Sys2Proof/Machine/Disasm.lean: operand descriptors (R145) and the disassembler (R158, R159, R162): a pure function
from a decoded instruction to its canonical text. It switches on the same Instr that exec does.
-/

namespace Sys2Proof.Machine

/-- An operand descriptor (R145), as R158 spells it. -/
inductive Operand where
  | reg (r : Reg8)
  | pair (p : RP)
  | pair2 (p : RP2)
  | pairAF
  | shadowAF
  | idx (x : Idx)
  | half (x : Idx) (p : Half)
  | regI
  | regR
  | flagF
  | indPair (p : RP)
  | indIdx (x : Idx)
  | indSp
  | indexed (x : Idx) (d : Byte)
  | direct (nn : Word)
  | imm8 (n : Byte)
  | imm16 (nn : Word)
  | rel (e : Byte)
  | port (n : Byte)
  | portC
  | restart (t : BitVec 3)
  | bit (b : BitVec 3)
  | cond (k : Cond)
  | lit (n : Nat)
  | raw (b : Byte)
  deriving DecidableEq, Repr

/-! ### Spelling -/

/-- An upper-case hex digit. -/
def hexDigit (n : Nat) : Char := "0123456789ABCDEF".toList.getD n '0'

/-- `0x` and two hex digits (R158). -/
def hexByte (b : Byte) : String := "0x" ++ String.ofList [hexDigit (b.toNat / 16), hexDigit (b.toNat % 16)]

/-- `0x` and four hex digits (R158). -/
def hexWord (w : Word) : String :=
  "0x" ++ String.ofList [hexDigit (w.toNat / 4096), hexDigit (w.toNat / 256 % 16), hexDigit (w.toNat / 16 % 16),
    hexDigit (w.toNat % 16)]

/-- A number up to 999 in decimal, without leading zeros. -/
def decimal (n : Nat) : String :=
  if n < 10 then String.ofList [hexDigit n]
  else if n < 100 then String.ofList [hexDigit (n / 10), hexDigit (n % 10)]
  else String.ofList [hexDigit (n / 100), hexDigit (n / 10 % 10), hexDigit (n % 10)]

/-- A signed displacement: `+0x05`, `-0x03` (R158). -/
def signedHex (d : Byte) : String := if d.msb then "-" ++ hexByte (-d) else "+" ++ hexByte d

/-- A relative target: `$`, `$+k` or `$-k` with k = sext_8(e) + 2 in decimal (R158). -/
def relText (e : Byte) : String :=
  let k := e.toInt + 2
  if k = 0 then "$" else if k < 0 then "$-" ++ decimal (-k).toNat else "$+" ++ decimal k.toNat

/-- The name of a register. -/
def regName : Reg8 → String
  | .b => "B" | .c => "C" | .d => "D" | .e => "E" | .h => "H" | .l => "L" | .a => "A"

/-- The name of a pair of table rp. -/
def rpName : RP → String
  | .bc => "BC" | .de => "DE" | .hl => "HL" | .sp => "SP"

/-- The name of a pair of table rp2. -/
def rp2Name : RP2 → String
  | .bc => "BC" | .de => "DE" | .hl => "HL" | .af => "AF"

/-- The name of an index register. -/
def idxName : Idx → String
  | .ix => "IX" | .iy => "IY"

/-- The name of an index half. -/
def halfName : Idx → Half → String
  | .ix, .xh => "IXH" | .ix, .xl => "IXL" | .iy, .xh => "IYH" | .iy, .xl => "IYL"

/-- The name of a condition. -/
def condName : Cond → String
  | .nz => "NZ" | .z => "Z" | .nc => "NC" | .c => "C" | .po => "PO" | .pe => "PE" | .p => "P" | .m => "M"

/-- The text of an operand (R158). -/
def operandText : Operand → String
  | .reg r => regName r
  | .pair p => rpName p
  | .pair2 p => rp2Name p
  | .pairAF => "AF"
  | .shadowAF => "AF'"
  | .idx x => idxName x
  | .half x p => halfName x p
  | .regI => "I"
  | .regR => "R"
  | .flagF => "F"
  | .indPair p => "(" ++ rpName p ++ ")"
  | .indIdx x => "(" ++ idxName x ++ ")"
  | .indSp => "(SP)"
  | .indexed x d => "(" ++ idxName x ++ signedHex d ++ ")"
  | .direct nn => "(" ++ hexWord nn ++ ")"
  | .imm8 n => hexByte n
  | .imm16 nn => hexWord nn
  | .rel e => relText e
  | .port n => "(" ++ hexByte n ++ ")"
  | .portC => "(C)"
  | .restart t => hexByte (BitVec.ofNat 8 (t.toNat * 8))
  | .bit b => decimal b.toNat
  | .cond k => condName k
  | .lit n => decimal n
  | .raw b => hexByte b

/-- The operand pp of R372. -/
def xpairOperand (x : Idx) : XRP → Operand
  | .bc => .pair .bc | .de => .pair .de | .self => .idx x | .sp => .pair .sp

/-- An operand of R218. -/
def xregOperand (x : Idx) : XReg8 → Operand
  | .b => .reg .b | .c => .reg .c | .d => .reg .d | .e => .reg .e | .a => .reg .a
  | .xh => .half x .xh | .xl => .half x .xl

/-- The Zilog mnemonic of a form (R158). An ED hole is spelled with `DB`. The prefix rows never reach the disassembler. -/
def instrName : Instr → String
  | .prefixCB => "CB"
  | .prefixDD => "DD"
  | .prefixED => "ED"
  | .prefixFD => "FD"
  | .prefixDDCB _ => "DDCB"
  | .nop => "NOP"
  | .ldDdNn _ _ => "LD"
  | .ldBcIndA => "LD"
  | .incSs _ => "INC"
  | .incR _ => "INC"
  | .decR _ => "DEC"
  | .ldRN _ _ => "LD"
  | .rlca => "RLCA"
  | .exAfAf => "EX"
  | .addHlSs _ => "ADD"
  | .ldABcInd => "LD"
  | .decSs _ => "DEC"
  | .rrca => "RRCA"
  | .djnz _ => "DJNZ"
  | .ldDeIndA => "LD"
  | .rla => "RLA"
  | .jr _ => "JR"
  | .ldADeInd => "LD"
  | .rra => "RRA"
  | .jrCc _ _ => "JR"
  | .ldNnIndHl _ => "LD"
  | .daa => "DAA"
  | .ldHlNnInd _ => "LD"
  | .cpl => "CPL"
  | .ldNnIndA _ => "LD"
  | .incHlInd => "INC"
  | .decHlInd => "DEC"
  | .ldHlIndN _ => "LD"
  | .scf => "SCF"
  | .ldANnInd _ => "LD"
  | .ccf => "CCF"
  | .ldRR _ _ => "LD"
  | .ldRHlInd _ => "LD"
  | .ldHlIndR _ => "LD"
  | .halt => "HALT"
  | .addAR _ => "ADD"
  | .addAHlInd => "ADD"
  | .adcAR _ => "ADC"
  | .adcAHlInd => "ADC"
  | .subR _ => "SUB"
  | .subHlInd => "SUB"
  | .sbcAR _ => "SBC"
  | .sbcAHlInd => "SBC"
  | .andR _ => "AND"
  | .andHlInd => "AND"
  | .xorR _ => "XOR"
  | .xorHlInd => "XOR"
  | .orR _ => "OR"
  | .orHlInd => "OR"
  | .cpR _ => "CP"
  | .cpHlInd => "CP"
  | .retCc _ => "RET"
  | .popQq _ => "POP"
  | .jpCcNn _ _ => "JP"
  | .jpNn _ => "JP"
  | .callCcNn _ _ => "CALL"
  | .pushQq _ => "PUSH"
  | .addAN _ => "ADD"
  | .rst _ => "RST"
  | .ret => "RET"
  | .callNn _ => "CALL"
  | .adcAN _ => "ADC"
  | .outNA _ => "OUT"
  | .subN _ => "SUB"
  | .exx => "EXX"
  | .inAN _ => "IN"
  | .sbcAN _ => "SBC"
  | .exSpHl => "EX"
  | .andN _ => "AND"
  | .jpHl => "JP"
  | .exDeHl => "EX"
  | .xorN _ => "XOR"
  | .di => "DI"
  | .orN _ => "OR"
  | .ldSpHl => "LD"
  | .ei => "EI"
  | .cpN _ => "CP"
  | .rlcR _ => "RLC"
  | .rlcHlInd => "RLC"
  | .rrcR _ => "RRC"
  | .rrcHlInd => "RRC"
  | .rlR _ => "RL"
  | .rlHlInd => "RL"
  | .rrR _ => "RR"
  | .rrHlInd => "RR"
  | .slaR _ => "SLA"
  | .slaHlInd => "SLA"
  | .sraR _ => "SRA"
  | .sraHlInd => "SRA"
  | .sllR _ => "SLL"
  | .sllHlInd => "SLL"
  | .srlR _ => "SRL"
  | .srlHlInd => "SRL"
  | .bitBR _ _ => "BIT"
  | .bitBHlInd _ => "BIT"
  | .resBR _ _ => "RES"
  | .resBHlInd _ => "RES"
  | .setBR _ _ => "SET"
  | .setBHlInd _ => "SET"
  | .nopEdHole _ => "DB"
  | .inRC _ => "IN"
  | .outCR _ => "OUT"
  | .sbcHlSs _ => "SBC"
  | .ldNnIndDd _ _ => "LD"
  | .neg => "NEG"
  | .retn => "RETN"
  | .im0 => "IM"
  | .ldIA => "LD"
  | .adcHlSs _ => "ADC"
  | .ldDdNnInd _ _ => "LD"
  | .negMirror _ => "NEG"
  | .reti => "RETI"
  | .imMirror _ => "IM"
  | .ldRfshA => "LD"
  | .retnMirror _ => "RETN"
  | .im1 => "IM"
  | .ldAI => "LD"
  | .im2 => "IM"
  | .ldARfsh => "LD"
  | .rrd => "RRD"
  | .rld => "RLD"
  | .inFC => "IN"
  | .outC0 => "OUT"
  | .ldi => "LDI"
  | .cpi => "CPI"
  | .ini => "INI"
  | .outi => "OUTI"
  | .ldd => "LDD"
  | .cpd => "CPD"
  | .ind => "IND"
  | .outd => "OUTD"
  | .ldir => "LDIR"
  | .cpir => "CPIR"
  | .inir => "INIR"
  | .otir => "OTIR"
  | .lddr => "LDDR"
  | .cpdr => "CPDR"
  | .indr => "INDR"
  | .otdr => "OTDR"
  | .addIxPp _ _ => "ADD"
  | .ldIxNn _ _ => "LD"
  | .ldNnIndIx _ _ => "LD"
  | .incIx _ => "INC"
  | .incHalf _ _ => "INC"
  | .decHalf _ _ => "DEC"
  | .ldHalfN _ _ _ => "LD"
  | .ldIxNnInd _ _ => "LD"
  | .decIx _ => "DEC"
  | .incIxd _ _ => "INC"
  | .decIxd _ _ => "DEC"
  | .ldIxdN _ _ _ => "LD"
  | .ldHalves _ _ _ => "LD"
  | .ldRIxd _ _ _ => "LD"
  | .ldIxdR _ _ _ => "LD"
  | .addAHalf _ _ => "ADD"
  | .addAIxd _ _ => "ADD"
  | .adcAHalf _ _ => "ADC"
  | .adcAIxd _ _ => "ADC"
  | .subHalf _ _ => "SUB"
  | .subIxd _ _ => "SUB"
  | .sbcAHalf _ _ => "SBC"
  | .sbcAIxd _ _ => "SBC"
  | .andHalf _ _ => "AND"
  | .andIxd _ _ => "AND"
  | .xorHalf _ _ => "XOR"
  | .xorIxd _ _ => "XOR"
  | .orHalf _ _ => "OR"
  | .orIxd _ _ => "OR"
  | .cpHalf _ _ => "CP"
  | .cpIxd _ _ => "CP"
  | .popIx _ => "POP"
  | .exSpIx _ => "EX"
  | .pushIx _ => "PUSH"
  | .jpIx _ => "JP"
  | .ldSpIx _ => "LD"
  | .rlcIxdR _ _ _ => "RLC"
  | .rlcIxd _ _ => "RLC"
  | .rrcIxdR _ _ _ => "RRC"
  | .rrcIxd _ _ => "RRC"
  | .rlIxdR _ _ _ => "RL"
  | .rlIxd _ _ => "RL"
  | .rrIxdR _ _ _ => "RR"
  | .rrIxd _ _ => "RR"
  | .slaIxdR _ _ _ => "SLA"
  | .slaIxd _ _ => "SLA"
  | .sraIxdR _ _ _ => "SRA"
  | .sraIxd _ _ => "SRA"
  | .sllIxdR _ _ _ => "SLL"
  | .sllIxd _ _ => "SLL"
  | .srlIxdR _ _ _ => "SRL"
  | .srlIxd _ _ => "SRL"
  | .bitBIxdZ _ _ _ _ => "BIT"
  | .bitBIxd _ _ _ => "BIT"
  | .resBIxdR _ _ _ _ => "RES"
  | .resBIxd _ _ _ => "RES"
  | .setBIxdR _ _ _ _ => "SET"
  | .setBIxd _ _ _ => "SET"

/-- R140's `operands`: the operand descriptors of a form, in the order of its text (R145, R158). -/
def instrOperands : Instr → List Operand
  | .prefixCB => []
  | .prefixDD => []
  | .prefixED => []
  | .prefixFD => []
  | .prefixDDCB _ => []
  | .nop => []
  | .ldDdNn dd nn => [.pair dd, .imm16 nn]
  | .ldBcIndA => [.indPair .bc, .reg .a]
  | .incSs ss => [.pair ss]
  | .incR r => [.reg r]
  | .decR r => [.reg r]
  | .ldRN r n => [.reg r, .imm8 n]
  | .rlca => []
  | .exAfAf => [.pairAF, .shadowAF]
  | .addHlSs ss => [.pair .hl, .pair ss]
  | .ldABcInd => [.reg .a, .indPair .bc]
  | .decSs ss => [.pair ss]
  | .rrca => []
  | .djnz e => [.rel e]
  | .ldDeIndA => [.indPair .de, .reg .a]
  | .rla => []
  | .jr e => [.rel e]
  | .ldADeInd => [.reg .a, .indPair .de]
  | .rra => []
  | .jrCc cc e => [.cond cc.cond, .rel e]
  | .ldNnIndHl nn => [.direct nn, .pair .hl]
  | .daa => []
  | .ldHlNnInd nn => [.pair .hl, .direct nn]
  | .cpl => []
  | .ldNnIndA nn => [.direct nn, .reg .a]
  | .incHlInd => [.indPair .hl]
  | .decHlInd => [.indPair .hl]
  | .ldHlIndN n => [.indPair .hl, .imm8 n]
  | .scf => []
  | .ldANnInd nn => [.reg .a, .direct nn]
  | .ccf => []
  | .ldRR y z => [.reg y, .reg z]
  | .ldRHlInd r => [.reg r, .indPair .hl]
  | .ldHlIndR r => [.indPair .hl, .reg r]
  | .halt => []
  | .addAR r => [.reg .a, .reg r]
  | .addAHlInd => [.reg .a, .indPair .hl]
  | .adcAR r => [.reg .a, .reg r]
  | .adcAHlInd => [.reg .a, .indPair .hl]
  | .subR r => [.reg r]
  | .subHlInd => [.indPair .hl]
  | .sbcAR r => [.reg .a, .reg r]
  | .sbcAHlInd => [.reg .a, .indPair .hl]
  | .andR r => [.reg r]
  | .andHlInd => [.indPair .hl]
  | .xorR r => [.reg r]
  | .xorHlInd => [.indPair .hl]
  | .orR r => [.reg r]
  | .orHlInd => [.indPair .hl]
  | .cpR r => [.reg r]
  | .cpHlInd => [.indPair .hl]
  | .retCc cc => [.cond cc]
  | .popQq qq => [.pair2 qq]
  | .jpCcNn cc nn => [.cond cc, .imm16 nn]
  | .jpNn nn => [.imm16 nn]
  | .callCcNn cc nn => [.cond cc, .imm16 nn]
  | .pushQq qq => [.pair2 qq]
  | .addAN n => [.reg .a, .imm8 n]
  | .rst t => [.restart t]
  | .ret => []
  | .callNn nn => [.imm16 nn]
  | .adcAN n => [.reg .a, .imm8 n]
  | .outNA n => [.port n, .reg .a]
  | .subN n => [.imm8 n]
  | .exx => []
  | .inAN n => [.reg .a, .port n]
  | .sbcAN n => [.reg .a, .imm8 n]
  | .exSpHl => [.indSp, .pair .hl]
  | .andN n => [.imm8 n]
  | .jpHl => [.indPair .hl]
  | .exDeHl => [.pair .de, .pair .hl]
  | .xorN n => [.imm8 n]
  | .di => []
  | .orN n => [.imm8 n]
  | .ldSpHl => [.pair .sp, .pair .hl]
  | .ei => []
  | .cpN n => [.imm8 n]
  | .rlcR r => [.reg r]
  | .rlcHlInd => [.indPair .hl]
  | .rrcR r => [.reg r]
  | .rrcHlInd => [.indPair .hl]
  | .rlR r => [.reg r]
  | .rlHlInd => [.indPair .hl]
  | .rrR r => [.reg r]
  | .rrHlInd => [.indPair .hl]
  | .slaR r => [.reg r]
  | .slaHlInd => [.indPair .hl]
  | .sraR r => [.reg r]
  | .sraHlInd => [.indPair .hl]
  | .sllR r => [.reg r]
  | .sllHlInd => [.indPair .hl]
  | .srlR r => [.reg r]
  | .srlHlInd => [.indPair .hl]
  | .bitBR b r => [.bit b, .reg r]
  | .bitBHlInd b => [.bit b, .indPair .hl]
  | .resBR b r => [.bit b, .reg r]
  | .resBHlInd b => [.bit b, .indPair .hl]
  | .setBR b r => [.bit b, .reg r]
  | .setBHlInd b => [.bit b, .indPair .hl]
  | .nopEdHole op => [.raw 0xED, .raw op]
  | .inRC r => [.reg r, .portC]
  | .outCR r => [.portC, .reg r]
  | .sbcHlSs ss => [.pair .hl, .pair ss]
  | .ldNnIndDd dd nn => [.direct nn, .pair dd]
  | .neg => []
  | .retn => []
  | .im0 => [.lit 0]
  | .ldIA => [.regI, .reg .a]
  | .adcHlSs ss => [.pair .hl, .pair ss]
  | .ldDdNnInd dd nn => [.pair dd, .direct nn]
  | .negMirror _ => []
  | .reti => []
  | .imMirror y => [.lit (imField y).code]
  | .ldRfshA => [.regR, .reg .a]
  | .retnMirror _ => []
  | .im1 => [.lit 1]
  | .ldAI => [.reg .a, .regI]
  | .im2 => [.lit 2]
  | .ldARfsh => [.reg .a, .regR]
  | .rrd => []
  | .rld => []
  | .inFC => [.flagF, .portC]
  | .outC0 => [.portC, .lit 0]
  | .ldi => []
  | .cpi => []
  | .ini => []
  | .outi => []
  | .ldd => []
  | .cpd => []
  | .ind => []
  | .outd => []
  | .ldir => []
  | .cpir => []
  | .inir => []
  | .otir => []
  | .lddr => []
  | .cpdr => []
  | .indr => []
  | .otdr => []
  | .addIxPp x pp => [.idx x, xpairOperand x pp]
  | .ldIxNn x nn => [.idx x, .imm16 nn]
  | .ldNnIndIx x nn => [.direct nn, .idx x]
  | .incIx x => [.idx x]
  | .incHalf x p => [.half x p]
  | .decHalf x p => [.half x p]
  | .ldHalfN x p n => [.half x p, .imm8 n]
  | .ldIxNnInd x nn => [.idx x, .direct nn]
  | .decIx x => [.idx x]
  | .incIxd x d => [.indexed x d]
  | .decIxd x d => [.indexed x d]
  | .ldIxdN x d n => [.indexed x d, .imm8 n]
  | .ldHalves x y z => [xregOperand x y, xregOperand x z]
  | .ldRIxd x r d => [.reg r, .indexed x d]
  | .ldIxdR x d r => [.indexed x d, .reg r]
  | .addAHalf x p => [.reg .a, .half x p]
  | .addAIxd x d => [.reg .a, .indexed x d]
  | .adcAHalf x p => [.reg .a, .half x p]
  | .adcAIxd x d => [.reg .a, .indexed x d]
  | .subHalf x p => [.half x p]
  | .subIxd x d => [.indexed x d]
  | .sbcAHalf x p => [.reg .a, .half x p]
  | .sbcAIxd x d => [.reg .a, .indexed x d]
  | .andHalf x p => [.half x p]
  | .andIxd x d => [.indexed x d]
  | .xorHalf x p => [.half x p]
  | .xorIxd x d => [.indexed x d]
  | .orHalf x p => [.half x p]
  | .orIxd x d => [.indexed x d]
  | .cpHalf x p => [.half x p]
  | .cpIxd x d => [.indexed x d]
  | .popIx x => [.idx x]
  | .exSpIx x => [.indSp, .idx x]
  | .pushIx x => [.idx x]
  | .jpIx x => [.indIdx x]
  | .ldSpIx x => [.pair .sp, .idx x]
  | .rlcIxdR x d r => [.indexed x d, .reg r]
  | .rlcIxd x d => [.indexed x d]
  | .rrcIxdR x d r => [.indexed x d, .reg r]
  | .rrcIxd x d => [.indexed x d]
  | .rlIxdR x d r => [.indexed x d, .reg r]
  | .rlIxd x d => [.indexed x d]
  | .rrIxdR x d r => [.indexed x d, .reg r]
  | .rrIxd x d => [.indexed x d]
  | .slaIxdR x d r => [.indexed x d, .reg r]
  | .slaIxd x d => [.indexed x d]
  | .sraIxdR x d r => [.indexed x d, .reg r]
  | .sraIxd x d => [.indexed x d]
  | .sllIxdR x d r => [.indexed x d, .reg r]
  | .sllIxd x d => [.indexed x d]
  | .srlIxdR x d r => [.indexed x d, .reg r]
  | .srlIxd x d => [.indexed x d]
  | .bitBIxdZ x b d _ => [.bit b, .indexed x d]
  | .bitBIxd x b d => [.bit b, .indexed x d]
  | .resBIxdR x b d r => [.bit b, .indexed x d, .reg r]
  | .resBIxd x b d => [.bit b, .indexed x d]
  | .setBIxdR x b d r => [.bit b, .indexed x d, .reg r]
  | .setBIxd x b d => [.bit b, .indexed x d]

/-- A mnemonic and its operands: one space, then commas without spaces (R158). -/
def joinText (name : String) (operands : List String) : String :=
  if operands.isEmpty then name else name ++ " " ++ String.intercalate "," operands

/-- The canonical text of an instruction (R158). -/
def instrText (i : Instr) : String := joinText (instrName i) ((instrOperands i).map operandText)

/-- A wasted prefix byte as a bracketed token (R158). -/
def wastedText : Idx → String
  | .ix => "[DD] "
  | .iy => "[FD] "

/-- The disassembler (R162): the canonical text of a decoded instruction. -/
def disassemble (d : Decoded) : String := String.join (d.wasted.map wastedText) ++ instrText d.instr

/-! ### Spellings of assemblers (R159) -/

/-- Other names of an operand: `HX` and `LX` for IXH and IXL (R159). -/
def operandTexts (o : Operand) : List String :=
  match o with
  | .half .ix .xh => ["IXH", "HX"]
  | .half .ix .xl => ["IXL", "LX"]
  | o => [operandText o]

/-- Every choice of one entry from each list. -/
def choices {α : Type} : List (List α) → List (List α)
  | [] => [[]]
  | xs :: rest => xs.flatMap (fun x => (choices rest).map (fun ys => x :: ys))

/-- The texts accepted for a form, the canonical one first (R159). -/
def spellings (i : Instr) : List String :=
  let operands := choices ((instrOperands i).map operandTexts)
  let names := if instrName i = "SLL" then ["SLL", "SL1", "SLI"] else [instrName i]
  let plain := names.flatMap (fun n => operands.map (joinText n))
  let withA := if ["SUB", "AND", "XOR", "OR", "CP"].contains (instrName i) then
    operands.map (fun xs => joinText (instrName i) ("A" :: xs)) else []
  let other := match i with
    | .jpHl => ["JP HL"]
    | .inFC => ["IN (C)"]
    | _ => []
  plain ++ withA ++ other

end Sys2Proof.Machine
end

