-- ==== Sys2Proof/Machine/Asm.lean ====
section
/-!
DEFINITION. Sys2Proof/Machine/Asm.lean: the assembler of the round trip (R162): from the text of R158, in any spelling of R159,
back to the instructions it names and their bytes.
-/

namespace Sys2Proof.Machine

/-! ### Reading operands -/

/-- The parts of a text between the occurrences of `c`. -/
def splitAt (c : Char) : List Char → List (List Char)
  | [] => [[]]
  | x :: xs =>
    if x = c then [] :: splitAt c xs
    else
      match splitAt c xs with
      | [] => [[x]]
      | part :: rest => (x :: part) :: rest

/-- The value of an upper-case hex digit. -/
def digitValue (c : Char) : Option Nat :=
  let k := "0123456789ABCDEF".toList.idxOf c
  if k < 16 then some k else none

/-- The number that the hex digits after the last `x` of a text write. -/
def hexValue (t : List Char) : Nat :=
  t.foldl (fun n c => if c = 'x' then 0 else match digitValue c with | some d => n * 16 + d | none => n) 0

/-- The number that the digits of a text write in decimal. -/
def decimalValue (t : List Char) : Nat :=
  t.foldl (fun n c => match digitValue c with | some d => n * 10 + d | none => n) 0

/-- The operands with no number in their text, the bit numbers and the interrupt modes. -/
def fixedOperands : List Operand :=
  [.reg .b, .reg .c, .reg .d, .reg .e, .reg .h, .reg .l, .reg .a, .regI, .regR, .flagF,
   .pair .bc, .pair .de, .pair .hl, .pair .sp, .pair2 .bc, .pair2 .de, .pair2 .hl, .pair2 .af, .pairAF, .shadowAF,
   .idx .ix, .idx .iy, .half .ix .xh, .half .ix .xl, .half .iy .xh, .half .iy .xl,
   .indPair .bc, .indPair .de, .indPair .hl, .indIdx .ix, .indIdx .iy, .indSp, .portC,
   .cond .nz, .cond .z, .cond .nc, .cond .c, .cond .po, .cond .pe, .cond .p, .cond .m,
   .bit 0, .bit 1, .bit 2, .bit 3, .bit 4, .bit 5, .bit 6, .bit 7, .lit 0, .lit 1, .lit 2]

/-- The operands that hold the number a text writes, whatever the text's form: a displacement or an offset after `-` is negative. -/
def numericOperands (t : List Char) : List Operand :=
  let b := BitVec.ofNat 8 (hexValue t)
  let w := BitVec.ofNat 16 (hexValue t)
  let minus := t.contains '-'
  let d := if minus then -b else b
  let k : Int := if minus then -decimalValue t else decimalValue t
  [.imm8 b, .raw b, .port b, .imm16 w, .direct w, .restart (BitVec.ofNat 3 (hexValue t / 8)), .indexed .ix d, .indexed .iy d,
   .rel (BitVec.ofInt 8 (k - 2))]

/-- The operands that a text spells (R158, R159). -/
def readings (t : List Char) : List Operand :=
  (fixedOperands ++ numericOperands t).filter (fun o => (operandTexts o).contains (String.ofList t))

/-! ### From operands to forms -/

/-- The bit patterns of a 3-bit field. -/
def fields3 : List (BitVec 3) := [0, 1, 2, 3, 4, 5, 6, 7]

/-- Table r' of R218. -/
def xregs : List XReg8 := [.b, .c, .d, .e, .xh, .xl, .a]

/-- Table r without `(HL)` (R143). -/
def regs8 : List Reg8 := [.b, .c, .d, .e, .h, .l, .a]

/-- The loads between halves of `x` and registers (R218). -/
def halfLoads (x : Idx) : List Instr := xregs.flatMap (fun y => xregs.map (Instr.ldHalves x y))

/-- Forms without operands. -/
def forms0 : List Instr :=
  let plain : List Instr :=
    [.nop, .rlca, .rrca, .rla, .rra, .daa, .cpl, .scf, .ccf, .halt, .ret, .exx, .di, .ei, .neg, .retn, .reti, .rrd, .rld,
     .ldi, .cpi, .ini, .outi, .ldd, .cpd, .ind, .outd, .ldir, .cpir, .inir, .otir, .lddr, .cpdr, .indr, .otdr]
  plain ++ fields3.map Instr.negMirror ++ fields3.map Instr.retnMirror

/-- Forms with one operand. -/
def forms1 : Operand → List Instr
  | .reg r => [.incR r, .decR r, .subR r, .andR r, .xorR r, .orR r, .cpR r, .rlcR r, .rrcR r, .rlR r, .rrR r, .slaR r, .sraR r,
      .sllR r, .srlR r]
  | .half x p => [.incHalf x p, .decHalf x p, .subHalf x p, .andHalf x p, .xorHalf x p, .orHalf x p, .cpHalf x p]
  | .imm8 n => [.subN n, .andN n, .xorN n, .orN n, .cpN n]
  | .indPair _ => [.incHlInd, .decHlInd, .subHlInd, .andHlInd, .xorHlInd, .orHlInd, .cpHlInd, .jpHl, .rlcHlInd, .rrcHlInd,
      .rlHlInd, .rrHlInd, .slaHlInd, .sraHlInd, .sllHlInd, .srlHlInd]
  | .indexed x d => [.incIxd x d, .decIxd x d, .subIxd x d, .andIxd x d, .xorIxd x d, .orIxd x d, .cpIxd x d, .rlcIxd x d,
      .rrcIxd x d, .rlIxd x d, .rrIxd x d, .slaIxd x d, .sraIxd x d, .sllIxd x d, .srlIxd x d]
  | .pair p => [.incSs p, .decSs p]
  | .pair2 q => [.pushQq q, .popQq q]
  | .idx x => [.incIx x, .decIx x, .pushIx x, .popIx x]
  | .indIdx x => [.jpIx x]
  | .rel e => [.djnz e, .jr e]
  | .cond k => [.retCc k]
  | .imm16 nn => [.jpNn nn, .callNn nn]
  | .restart t => [.rst t]
  | .lit _ => ([.im0, .im1, .im2] : List Instr) ++ fields3.map Instr.imMirror
  | _ => []

/-- Forms whose first operand is the register `r`. -/
def formsReg (r : Reg8) : Operand → List Instr
  | .reg z => [.ldRR r z, .addAR z, .adcAR z, .sbcAR z]
  | .imm8 n => [.ldRN r n, .addAN n, .adcAN n, .sbcAN n]
  | .indPair _ => [.ldABcInd, .ldADeInd, .ldRHlInd r, .addAHlInd, .adcAHlInd, .sbcAHlInd]
  | .indexed x d => [.ldRIxd x r d, .addAIxd x d, .adcAIxd x d, .sbcAIxd x d]
  | .half x p => ([.addAHalf x p, .adcAHalf x p, .sbcAHalf x p] : List Instr) ++ halfLoads x
  | .direct nn => [.ldANnInd nn]
  | .port n => [.inAN n]
  | .portC => [.inRC r]
  | .regI => [.ldAI]
  | .regR => [.ldARfsh]
  | _ => []

/-- Forms whose first operand is the pair `p`. -/
def formsPair (p : RP) : Operand → List Instr
  | .imm16 nn => [.ldDdNn p nn]
  | .direct nn => [.ldHlNnInd nn, .ldDdNnInd p nn]
  | .pair q => [.addHlSs q, .adcHlSs q, .sbcHlSs q, .exDeHl, .ldSpHl]
  | .idx x => [.ldSpIx x]
  | _ => []

/-- Forms whose first operand is the index register `x`. -/
def formsIdx (x : Idx) : Operand → List Instr
  | .imm16 nn => [.ldIxNn x nn]
  | .direct nn => [.ldIxNnInd x nn]
  | .pair _ => [.addIxPp x .bc, .addIxPp x .de, .addIxPp x .sp]
  | .idx _ => [.addIxPp x .self]
  | _ => []

/-- Forms whose first operand is the address `nn` in brackets. -/
def formsDirect (nn : Word) : Operand → List Instr
  | .reg _ => [.ldNnIndA nn]
  | .pair p => [.ldNnIndHl nn, .ldNnIndDd p nn]
  | .idx x => [.ldNnIndIx x nn]
  | _ => []

/-- Forms whose first operand is the indexed byte. -/
def formsIndexed (x : Idx) (d : Byte) : Operand → List Instr
  | .reg r => [.ldIxdR x d r, .rlcIxdR x d r, .rrcIxdR x d r, .rlIxdR x d r, .rrIxdR x d r, .slaIxdR x d r, .sraIxdR x d r,
      .sllIxdR x d r, .srlIxdR x d r]
  | .imm8 n => [.ldIxdN x d n]
  | _ => []

/-- Forms whose first operand is the bit number `b`. -/
def formsBit (b : BitVec 3) : Operand → List Instr
  | .reg r => [.bitBR b r, .resBR b r, .setBR b r]
  | .indPair _ => [.bitBHlInd b, .resBHlInd b, .setBHlInd b]
  | .indexed x d => ([.bitBIxd x b d, .resBIxd x b d, .setBIxd x b d] : List Instr) ++ regs8.map (Instr.bitBIxdZ x b d)
  | _ => []

/-- Forms with two operands. -/
def forms2 (o o2 : Operand) : List Instr :=
  match o with
  | .reg r => formsReg r o2
  | .pair p => formsPair p o2
  | .idx x => formsIdx x o2
  | .direct nn => formsDirect nn o2
  | .indexed x d => formsIndexed x d o2
  | .bit b => formsBit b o2
  | .half x p => (match o2 with | .imm8 n => [.ldHalfN x p n] | _ => []) ++ halfLoads x
  | .indPair _ => match o2 with | .reg r => [.ldBcIndA, .ldDeIndA, .ldHlIndR r] | .imm8 n => [.ldHlIndN n] | _ => []
  | .indSp => match o2 with | .idx x => [.exSpIx x] | _ => [.exSpHl]
  | .cond k =>
    match o2 with
    | .rel e => [.jrCc .nz e, .jrCc .z e, .jrCc .nc e, .jrCc .c e]
    | .imm16 nn => [.jpCcNn k nn, .callCcNn k nn]
    | _ => []
  | .port n => [.outNA n]
  | .portC => match o2 with | .reg r => [.outCR r] | _ => [.outC0]
  | .raw _ => match o2 with | .raw op => [.nopEdHole op] | _ => []
  | .pairAF => [.exAfAf]
  | .regI => [.ldIA]
  | .regR => [.ldRfshA]
  | .flagF => [.inFC]
  | _ => []

/-- Forms with the bit number `b`, the indexed byte and a third operand. -/
def formsBitIndexed (b : BitVec 3) (x : Idx) (d : Byte) : Operand → List Instr
  | .reg r => [.resBIxdR x b d r, .setBIxdR x b d r]
  | _ => []

/-- Forms with three operands. -/
def forms3 (o o2 o3 : Operand) : List Instr :=
  match o with
  | .bit b => match o2 with | .indexed x d => formsBitIndexed b x d o3 | _ => []
  | _ => []

/-- The forms that may have these operands: a documented form stands before an undocumented one, and a shorter one before a longer
one of the same text. -/
def formsWith : List Operand → List Instr
  | [] => forms0
  | [o] => forms1 o
  | [o, o2] => forms2 o o2
  | [o, o2, o3] => forms3 o o2 o3
  | _ => []

/-- The Zilog name of a mnemonic (R159). -/
def zilogName (name : String) : String := if ["SL1", "SLI"].contains name then "SLL" else name

/-- The operands as R158 writes them, from another spelling (R159). -/
def zilogOperands (name : String) (ops : List Operand) : List Operand :=
  match ops with
  | [o, o2] => if ["SUB", "AND", "XOR", "OR", "CP"].contains name && o == .reg .a then [o2] else ops
  | [o] =>
    if name = "JP" ∧ o = .pair .hl then [.indPair .hl]
    else if name = "IN" ∧ o = .portC then [.flagF, .portC]
    else ops
  | _ => ops

/-- The well-formed instructions with this name and these operands. -/
def formsNamed (name : String) (ops : List Operand) : List Instr :=
  let ops := zilogOperands name ops
  (formsWith ops).filter (fun i => i.wf && instrName i == zilogName name && instrOperands i == ops)

/-! ### The assembler -/

/-- Every instruction that a text names, in the order of `formsWith`. -/
def assembleForms (t : String) : List Instr :=
  match splitAt ' ' t.toList with
  | [name] => formsNamed (String.ofList name) []
  | [name, operands] =>
    (choices ((splitAt ',' operands).map readings)).flatMap (formsNamed (String.ofList name))
  | _ => []

/-- The assembler (R162): the bytes of the first instruction that a text names; none where it names none. Where one text has
several encodings, it takes the documented and shortest one (log entry 19). -/
def assemble (t : String) : Option (List Byte) := (assembleForms t).head?.map encode

end Sys2Proof.Machine
end

