-- ==== Sys2Proof/Machine/Debug.lean ====
section
/-!
DEFINITION. Sys2Proof/Machine/Debug.lean: the debug controller (R560 to R572): breakpoints, watchpoints, `step()`, `run()`, the
read-only operations and `render`.
-/

namespace Sys2Proof.Machine

/-! ### Values of watchpoint targets (R562) -/

/-- A bit as a Word. -/
def wordOfBool (b : Bool) : Word := if b then 1 else 0

/-- The interrupt mode as a Word. -/
def wordOfIMode : IMode → Word
  | .im0 => 0 | .im1 => 1 | .im2 => 2

/-- `value(target)` (R562): a Byte target is extended with zeros. DESIGN CHOICE (log entry 20): under UNSET_READ = fault R62 gives a
register that is still unset a mark and no value, and R562 does not say what its value is to the debugger: here it is the
power-on draw held in its field. -/
def State.valueOf (s : State) : Target → Word
  | .a => zext16 s.a | .f => zext16 s.f | .b => zext16 s.b | .c => zext16 s.c
  | .d => zext16 s.d | .e => zext16 s.e | .h => zext16 s.h | .l => zext16 s.l
  | .af => s.af | .bc => s.bc | .de => s.de | .hl => s.hl
  | .a' => zext16 s.a' | .f' => zext16 s.f' | .b' => zext16 s.b' | .c' => zext16 s.c'
  | .d' => zext16 s.d' | .e' => zext16 s.e' | .h' => zext16 s.h' | .l' => zext16 s.l'
  | .af' => join s.a' s.f' | .bc' => join s.b' s.c' | .de' => join s.d' s.e' | .hl' => join s.h' s.l'
  | .ix => s.ix | .iy => s.iy
  | .ixh => zext16 (hi s.ix) | .ixl => zext16 (lo s.ix) | .iyh => zext16 (hi s.iy) | .iyl => zext16 (lo s.iy)
  | .sp => s.sp | .pc => s.pc | .i => zext16 s.i | .r => zext16 s.r
  | .iff1 => wordOfBool s.iff1 | .iff2 => wordOfBool s.iff2 | .im => wordOfIMode s.im
  | .mem a => zext16 (s.memRead a)

/-- A predicate over (before, after) (R562). -/
def Pred.holds : Pred → Word → Word → Bool
  | .changed, b, a => a != b
  | .equals k, b, a => a == k && b != k
  | .host n, b, a => Config.hostPred n b a

/-! ### Breakpoints and watchpoints (R561, R562) -/

/-- The rising list with an address put in its place, once. -/
def insertAddr (a : Word) : List Word → List Word
  | [] => [a]
  | b :: bs => if a = b then b :: bs else if a.toNat < b.toNat then a :: b :: bs else b :: insertAddr a bs

/-- `setBreakpoint(a)`: `bps <- bps ∪ {a}` (R561). -/
def State.setBreakpoint (s : State) (a : Word) : State :=
  { s with dbg := { s.dbg with bps := insertAddr a s.dbg.bps } }

/-- `clearBreakpoint(a)`: `bps <- bps \ {a}` (R561). -/
def State.clearBreakpoint (s : State) (a : Word) : State :=
  { s with dbg := { s.dbg with bps := s.dbg.bps.filter (· != a) } }

/-- `setWatchpoint(target, pred)` (R562): the id it returns and the state. Ids only rise, so the new entry is the last. -/
def State.setWatchpoint (s : State) (target : Target) (pred : Pred) : Nat × State :=
  (s.dbg.nextId,
    { s with dbg := { s.dbg with wps := s.dbg.wps ++ [⟨s.dbg.nextId, target, pred, s.valueOf target⟩],
                                 nextId := s.dbg.nextId + 1 } })

/-- `clearWatchpoint(id)` (R562): no effect when the id is absent. -/
def State.clearWatchpoint (s : State) (id : Nat) : State :=
  { s with dbg := { s.dbg with wps := s.dbg.wps.filter (fun w => w.id != id) } }

/-- Watchpoint evaluation (R567): every watchpoint in id order against its snapshot; every snapshot is then the value now. -/
def State.evalWatchpoints (s : State) : State :=
  { s with dbg := { s.dbg with
      fired := (s.dbg.wps.filter (fun w => w.pred.holds w.snap (s.valueOf w.target))).map Watch.id
      wps := s.dbg.wps.map (fun w => { w with snap := s.valueOf w.target }) } }

/-! ### `step()` and `run()` (R563, R570) -/

/-- What a debugger call returns (R563, R570, R576). -/
inductive DbgReturn where
  | stepped (fired : List Nat)
  | atBreakpoint (a : Word)
  | atWatchpoint (fired : List Nat)
  | stoppedByHost
  | fault (reason : InvariantReason)
  | refused (reason : Refusal)
  deriving DecidableEq, Repr

/-- The controller's mode set. -/
def State.setMode (s : State) (m : DbgMode) : State := { s with dbg := { s.dbg with mode := m } }

/-- The controller at rest after a call that no breakpoint or watchpoint stopped: mode Idle, no `stop_bp` (R563, R570). -/
def State.toIdle (s : State) : State := { s with dbg := { s.dbg with mode := .idle, stopBp := none } }

/-- The return for a mark (R563, R570: "if faulted or refused then return Fault/Refused"). -/
def State.markReturn (s : State) : Option DbgReturn :=
  match s.faulted, s.refused with
  | some r, _ => some (.fault r)
  | none, some r => some (.refused r)
  | none, none => none

/-- One boundary's step inside `step()` or `run()` (R563, R570), with the mark that it sets (log entry 12): none when the step is
stuck. -/
def State.debugBoundary (s : State) : Option State :=
  match s.boundary with
  | .fault .prefixHang => none
  | res => some (s.settle res)

/-- The watchpoint evaluation that follows the boundary's step from `s` to `t` (R567): there is one after an engine step, and
none after a warm reset, which is none (R601, log entry 9). -/
def State.evalAfter (s t : State) : State := if s.resetNow then t else t.evalWatchpoints

/-- `step()` (R563): what it returns and the state it leaves, or none where it does not return. Watchpoints are evaluated after a
step that sets a mark too, and the return is then the mark's (log entry 12). -/
def State.debugStep (s : State) : Option (DbgReturn × State) :=
  match s.markReturn with
  | some ret => some (ret, s)
  | none =>
    match (s.setMode .steppingOne).debugBoundary with
    | none => none
    | some t =>
      let t := (s.evalAfter t).toIdle
      some (t.markReturn.getD (.stepped t.dbg.fired), t)

/-- How a `run()` of at most so many boundaries ended. -/
inductive RunResult where
  /-- `run()` returned. -/
  | returned (ret : DbgReturn) (s : State)
  /-- It is stuck: `run()` does not return (R503). -/
  | stuck
  /-- It is still running, in the state given. -/
  | running (s : State)
  deriving DecidableEq, Repr

/-- The loop of `run()` (R570) for at most `fuel` boundaries: `stop` is HOST_STOP, `k` the boundary count, `resume` the breakpoint
skipped at this boundary. -/
def runLoop (stop : Nat → Bool) : Nat → Nat → Option Word → State → RunResult
  | 0, _, _, s => .running s
  | fuel + 1, k, resume, s =>
    if stop k then .returned .stoppedByHost s.toIdle
    else if !s.halted && s.dbg.bps.contains s.pc && resume != some s.pc then
      .returned (.atBreakpoint s.pc)
        { s with dbg := { s.dbg with mode := .stoppedAtBreakpoint, stopBp := some s.pc } }
    else
      match s.debugBoundary with
      | none => .stuck
      | some t =>
        match t.markReturn with
        | some ret => .returned ret (t.setMode .idle)
        | none =>
          let t := s.evalAfter t
          if t.dbg.fired ≠ [] then
            .returned (.atWatchpoint t.dbg.fired)
              { t with dbg := { t.dbg with mode := .stoppedAtWatchpoint, stopBp := none } }
          else runLoop stop fuel (k + 1) none t

/-- `run()` (R570), followed for at most `fuel` boundaries. `continue` is the same operation (R571). -/
def State.debugRun (s : State) (stop : Nat → Bool) (fuel : Nat) : RunResult :=
  match s.markReturn with
  | some ret => .returned ret s
  | none =>
    runLoop stop fuel 0 (if s.dbg.mode = .stoppedAtBreakpoint then s.dbg.stopBp else none) (s.setMode .running)

/-! ### Read-only operations (R571, R572) -/

/-- Print register (R571); of a register still unset under UNSET_READ = fault, the held draw (log entry 20). -/
def State.printRegister (s : State) (target : Target) : Word := s.valueOf target

/-- Print memory range (R571): `n` bytes from `a`. -/
def State.printMemory (s : State) (a : Word) (n : Nat) : List Byte :=
  (List.range n).map (fun k => s.memRead (a + BitVec.ofNat 16 k))

/-- A line of `render` (R572). -/
structure RenderLine where
  addr : Word
  bytes : List Byte
  text : String
  deriving DecidableEq, Repr

/-- The lines of `render` (R572). -/
def State.renderLines (s : State) : Nat → Word → List RenderLine
  | 0, _ => []
  | count + 1, a =>
    match decodeFrom s.memRead a with
    | .ok d => ⟨a, s.printMemory a d.length, disassemble d⟩ :: s.renderLines count (a + BitVec.ofNat 16 d.length)
    | .prefixHang => [⟨a, [], "[DD|FD ...]"⟩]

/-- `render(anchor, count)` (R572): the flag `exact` and the lines. -/
def State.render (s : State) (anchor : Word) (count : Nat) : Bool × List RenderLine :=
  (anchor == s.pc, s.renderLines count anchor)

end Sys2Proof.Machine
end

