-- ==== Sys2Proof/Machine/HostOps.lean ====
section
/-!
DEFINITION. Sys2Proof/Machine/HostOps.lean: the host's and the platform's side of the interface: the display snapshot (R109),
ROM loading and the launch (R602), and the ZX Spectrum 48K profiles (R106, R108, R487, R510).
-/

namespace Sys2Proof.Machine

/-- The display's view at a boundary: a copy of memory (R109, D31). -/
def State.displaySnapshot (s : State) : Memory := s.mem

/-- One byte of a snapshot. -/
def snapshotByte (m : Memory) (a : Word) : Byte := Memory.read m a

/-- The pixel bitmap of the ZX Spectrum 48K profile (R108). -/
def spectrumBitmap : AddrRange := ⟨0x4000, 0x57FF⟩

/-- The colour attributes of the ZX Spectrum 48K profile (R108). -/
def spectrumAttributes : AddrRange := ⟨0x5800, 0x5AFF⟩

/-- Load a blob into an address range at initialisation (R602): none where the blob does not fit the range, a host error with
no move. ROM_REGION then names the range. -/
def loadRom (m : Memory) (range : AddrRange) (blob : List Byte) : Option (Memory × AddrRange) :=
  if range.first.toNat + blob.length ≤ range.last.toNat + 1 then some (Memory.place m range.first blob, range) else none

/-- The parameters of the ZX Spectrum 48K profile (R106, R108). -/
def Params.spectrum : Params := { Params.standard with romRegion := Config.spectrumRom }

/-- The inputs of the ZX Spectrum 48K profile (R487, R510): `now` and `later` are what the keyboard and EAR show at each port
read; the last of them is held for every read after (log entry 5). -/
def Env.spectrum (now : KeySnap) (later : List KeySnap) : Env := ⟨.spectrum48, .schedule [], .spectrum48 now later⟩

/-- A keyboard with no key pressed and EAR 0. -/
def KeySnap.idle : KeySnap := ⟨Vector.replicate 8 0b11111, false⟩

/-- What the ULA takes from a port write with a16[0] = 0 (R487): border, MIC, speaker. -/
structure UlaOut where
  border : BitVec 3
  mic : Bool
  speaker : Bool
  deriving DecidableEq, Repr

/-- What a port event sets on the ULA, if it is a write to it (R487). The core only records the event. -/
def ulaOut (e : PortEvent) : Option UlaOut :=
  match e.dir with
  | .input => none
  | .output =>
    if e.addr.getLsbD 0 then none
    else some ⟨e.value.extractLsb' 0 3, e.value.getLsbD 3, e.value.getLsbD 4⟩

end Sys2Proof.Machine
end

