-- ==== Sys2Proof/Machine/Run.lean ====
section
/-!
DEFINITION. Sys2Proof/Machine/Run.lean: stuck states (R503), final states and the end of a run (R575).
-/

namespace Sys2Proof.Machine

/-- A stuck state (R503): the step of its boundary meets a prefix chain that does not end. A marked state's step answers its mark,
so no marked state is stuck. -/
def State.isStuck (s : State) : Bool :=
  match step s with
  | .fault .prefixHang => true
  | _ => false

/-- A final state (R575): PC in END_PCS, not halted, no mark, and not stuck (R156, R503). It does not say that the chip
stops. -/
def State.isFinal (s : State) : Bool :=
  s.cfg.endPcs.contains s.pc && !s.halted && s.faulted.isNone && s.refused.isNone && !s.isStuck

/-- The state `n` boundaries on from a launch state, if every step on the way answers a next state. -/
def State.afterSteps (s : State) : Nat → Option State
  | 0 => some s
  | n + 1 =>
    match step s with
    | .next t => t.afterSteps n
    | _ => none

/-- How a run of at most so many boundaries came out. -/
inductive RunEnd where
  /-- It ended: the boundary's state is final (R575). -/
  | final (s : State)
  /-- A step set a mark, which the state carries, or the launch state had one (R501, R502): no final state follows. -/
  | marked (s : State)
  /-- It is stuck in the state given (R503). -/
  | stuck (s : State)
  /-- It has not ended yet, in the state given. -/
  | running (s : State)
  deriving DecidableEq, Repr

/-- A run (R575) from a launch state, followed for at most `fuel` steps: it ends at the first final boundary, whose instruction
has not run. -/
def State.run (s : State) : Nat → RunEnd
  | 0 => if s.isFinal then .final s else .running s
  | fuel + 1 =>
    if s.isFinal then .final s
    else
      match step s with
      | .next t => t.run fuel
      | .fault .prefixHang => .stuck s
      | stop => .marked (s.settle stop)

end Sys2Proof.Machine
end

