-- ==== Sys2Proof/Safety.lean ====
section
/-!
DEFINITION. Sys2Proof/Safety.lean: the terms claims use: the engine states of R57, the invariant of a state, and, for claims about an instruction, what it does beside its body, what it stores and what it
leaves in F, all in the arithmetic of numbers, so that a claim does not repeat the model's own bit operations.
-/

namespace Sys2Proof.Machine

/-! ### Boundaries and the invariant -/

/-- A boundary in the source's state Fetching (R57). -/
def State.isFetching (s : State) : Bool := !s.halted

/-- The source's predicate InterruptPending at a boundary (R57, R532). -/
def State.interruptPending (s : State) : Bool := s.nmiLatch || s.intNow.nmiEdge || s.acceptsInt s.intNow

/-- No mark is set (R64) and RESET_ENV gives 0 at this boundary (R601): the boundary's step is an engine step. -/
def State.engineReady (s : State) : Prop := s.resetNow = false ∧ s.faulted = none ∧ s.refused = none

/-- The controller's data is in its canonical form (R560): breakpoints strictly rising, ids strictly rising and below the next
id. -/
def Dbg.Ok (d : Dbg) : Prop :=
  d.bps.Pairwise (fun a b => a.toNat < b.toNat) ∧ d.wps.Pairwise (fun v w => v.id < w.id) ∧ ∀ w ∈ d.wps, w.id < d.nextId

/-- The invariant every step keeps: memory is canonical (R100), the controller's data is (R560), no port event is dated later than
now, and their times do not fall (R56, R470), and no location is marked unset twice (R62). -/
def State.Inv (s : State) : Prop :=
  Memory.wf s.mem ∧ Dbg.Ok s.dbg ∧
  (∀ e ∈ s.ioLog, e.time ≤ s.clock) ∧ s.ioLog.Pairwise (fun e f => e.time ≤ f.time) ∧ s.unset.Nodup

/-! ### What an instruction step does beside its body -/

/-- R521: PC moves past `length` bytes, R[6:0] counts `m1` M1 cycles modulo 128 and R[7] is kept (R52), the clock advances `t`
T-states, and the EI shadow ends. -/
def State.advance (s : State) (length m1 t : Nat) : State :=
  { s with
    pc := BitVec.ofNat 16 (s.pc.toNat + length)
    r := BitVec.ofNat 8 (s.r.toNat / 128 * 128 + (s.r.toNat + m1) % 128)
    clock := s.clock + t
    eiShadow := false }

/-- `exec` completes with a next state, and the next state is as `P` says. -/
def Completes (i : Instr) (s : State) (P : State → Prop) : Prop := ∃ t, exec i s = .next t ∧ P t

/-! ### Operands and memory, in numbers -/

/-- `X + sext_8(d)` modulo 2^16 (R145). -/
def State.indexedAddr (s : State) (x : Idx) (d : Byte) : Word := BitVec.ofInt 16 ((s.idx x).toNat + d.toInt)

/-- The target of a relative jump of `length` bytes: the address after it plus `sext_8(e)` (R451). -/
def State.jumpTarget (s : State) (length : Nat) (e : Byte) : Word := BitVec.ofInt 16 (s.pc.toNat + length + e.toInt)

/-- The Word at an address: the byte there is its low half, the byte after it, modulo 2^16, its high half (R101). -/
def State.wordAt (s : State) (a : Word) : Word :=
  BitVec.ofNat 16 (256 * (s.memRead (a + 1)).toNat + (s.memRead a).toNat)

/-- The high half of a Word, a number below 256. -/
def highByte (w : Word) : Byte := BitVec.ofNat 8 (w.toNat / 256)

/-- The low half of a Word. -/
def lowByte (w : Word) : Byte := BitVec.ofNat 8 (w.toNat % 256)

/-- `t`'s memory is `s`'s with `v` at `a`, unless `a` is in ROM_REGION; every other address reads as before. -/
def StoresByte (s t : State) (a : Word) (v : Byte) : Prop :=
  ∀ b, t.memRead b = if b = a ∧ s.inRom a = false then v else s.memRead b

/-- `t`'s memory is `s`'s with the Word `w` at `a` and `a + 1`, little-endian, each byte unless its address is in ROM_REGION; every
other address reads as before. -/
def StoresWord (s t : State) (a w : Word) : Prop :=
  ∀ b, t.memRead b =
    if b = a ∧ s.inRom a = false then lowByte w
    else if b = a + 1 ∧ s.inRom (a + 1) = false then highByte w
    else s.memRead b

/-! ### Flags, in numbers -/

/-- F of `t` is as `k` says, but for the bits of `drawn`, which are draws, and those of `undoc` under XY_POLICY = draw (R10). -/
def FlagsFollow (s t : State) (k : Flag → Bool) (undoc drawn : List Flag) : Prop :=
  ∀ g : Flag, g ∉ drawn → (s.cfg.xyPolicy = .silicon ∨ g ∉ undoc) → t.flag g = k g

/-- The bit of the number `n` with weight 2^j. -/
def bitOf (n j : Nat) : Bool := n / 2 ^ j % 2 = 1

/-- Does the Byte have an even number of one bits (R10)? -/
def evenOnes (v : Byte) : Bool := (List.range 8).countP (fun j => bitOf v.toNat j) % 2 = 0

/-- Is the integer outside -128..127? -/
def overflows8 (n : Int) : Bool := n < -128 || 127 < n

/-- Is the integer outside -32768..32767? -/
def overflows16 (n : Int) : Bool := n < -32768 || 32767 < n

/-- The flags of `a + b + c` (R300, R304): C the unsigned carry, P/V the signed overflow, H the carry out of bit 3. -/
def addFlags (a b : Byte) (c : Bool) : Flag → Bool :=
  let sum := a.toNat + b.toNat + c.toNat
  fun
  | .s => bitOf sum 7
  | .z => sum % 256 = 0
  | .y => bitOf sum 5
  | .h => 15 < a.toNat % 16 + b.toNat % 16 + c.toNat
  | .x => bitOf sum 3
  | .pv => overflows8 (a.toInt + b.toInt + c.toNat)
  | .n => false
  | .c => 255 < sum

/-- The flags of `a - b - c` (R301, R304): C the unsigned borrow, P/V the signed overflow, H the borrow into bit 3. -/
def subFlags (a b : Byte) (c : Bool) : Flag → Bool :=
  let diff := 512 + a.toNat - b.toNat - c.toNat
  fun
  | .s => bitOf diff 7
  | .z => diff % 256 = 0
  | .y => bitOf diff 5
  | .h => a.toNat % 16 < b.toNat % 16 + c.toNat
  | .x => bitOf diff 3
  | .pv => overflows8 (a.toInt - b.toInt - c.toNat)
  | .n => true
  | .c => a.toNat < b.toNat + c.toNat

/-- S, Z, Y and X of a result, with the others given. -/
def resultFlags (v : Byte) (h pv n c : Bool) : Flag → Bool
  | .s => bitOf v.toNat 7
  | .z => v.toNat = 0
  | .y => bitOf v.toNat 5
  | .h => h
  | .x => bitOf v.toNat 3
  | .pv => pv
  | .n => n
  | .c => c

/-- F after an increment (`up`) or decrement of `v` (R303): C is kept. -/
def stepFlags (s : State) (v : Byte) (up : Bool) : Flag → Bool
  | .h => if up then v.toNat % 16 = 15 else v.toNat % 16 = 0
  | .pv => overflows8 (if up then v.toInt + 1 else v.toInt - 1)
  | .n => !up
  | .c => s.flag .c
  | g => resultFlags (BitVec.ofNat 8 (if up then v.toNat + 1 else v.toNat + 255)) false false false false g

/-- F after a 16-bit addition that leaves S, Z and P/V (R370): H is the carry out of bit 11. -/
def wideAddFlags (s : State) (a b : Word) : Flag → Bool
  | .y => bitOf (a.toNat + b.toNat) 13
  | .h => 4095 < a.toNat % 4096 + b.toNat % 4096
  | .x => bitOf (a.toNat + b.toNat) 11
  | .n => false
  | .c => 65535 < a.toNat + b.toNat
  | g => s.flag g

/-- The flags of `a + b + c` on Words (R370): H is the carry out of bit 11. -/
def addFlags16 (a b : Word) (c : Bool) : Flag → Bool :=
  let sum := a.toNat + b.toNat + c.toNat
  fun
  | .s => bitOf sum 15
  | .z => sum % 65536 = 0
  | .y => bitOf sum 13
  | .h => 4095 < a.toNat % 4096 + b.toNat % 4096 + c.toNat
  | .x => bitOf sum 11
  | .pv => overflows16 (a.toInt + b.toInt + c.toNat)
  | .n => false
  | .c => 65535 < sum

/-- The flags of `a - b - c` on Words (R370): H is the borrow into bit 11. -/
def subFlags16 (a b : Word) (c : Bool) : Flag → Bool :=
  let diff := 131072 + a.toNat - b.toNat - c.toNat
  fun
  | .s => bitOf diff 15
  | .z => diff % 65536 = 0
  | .y => bitOf diff 13
  | .h => a.toNat % 4096 < b.toNat % 4096 + c.toNat
  | .x => bitOf diff 11
  | .pv => overflows16 (a.toInt - b.toInt - c.toNat)
  | .n => true
  | .c => a.toNat < b.toNat + c.toNat

/-- The result and the carry out of a rotate or shift of `v`, in numbers (R390). -/
def rotated (k : Rot) (v : Byte) (cin : Bool) : Byte × Bool :=
  let n := v.toNat
  let up (b0 : Nat) : Byte × Bool := (BitVec.ofNat 8 (n * 2 % 256 + b0), bitOf n 7)
  let down (b7 : Nat) : Byte × Bool := (BitVec.ofNat 8 (n / 2 + b7 * 128), bitOf n 0)
  match k with
  | .rlc => up (n / 128)
  | .rrc => down (n % 2)
  | .rl => up cin.toNat
  | .rr => down cin.toNat
  | .sla => up 0
  | .sra => down (n / 128)
  | .sll => up 1
  | .srl => down 0

/-- The Byte `v` with bit `b` made `value`. -/
def withBit (b : BitVec 3) (value : Bool) (v : Byte) : Byte :=
  BitVec.ofNat 8 (v.toNat - (bitOf v.toNat b.toNat).toNat * 2 ^ b.toNat + value.toNat * 2 ^ b.toNat)

/-- F after BIT of bit `b` of `v`, with Y and X from the Byte `yx` (R420, R422). -/
def bitTestFlags (s : State) (b : BitVec 3) (v yx : Byte) : Flag → Bool
  | .s => b = 7 ∧ bitOf v.toNat 7 = true
  | .z => !bitOf v.toNat b.toNat
  | .y => bitOf yx.toNat 5
  | .h => true
  | .x => bitOf yx.toNat 3
  | .pv => !bitOf v.toNat b.toNat
  | .n => false
  | .c => s.flag .c

/-- F after one block I/O transfer of `v` that leaves `b` in B, with the rule's integer `k` (R478). -/
def blockIoFlags (b v : Byte) (k : Nat) : Flag → Bool
  | .s => bitOf b.toNat 7
  | .z => b.toNat = 0
  | .y => bitOf b.toNat 5
  | .h => 255 < k
  | .x => bitOf b.toNat 3
  | .pv => evenOnes (BitVec.ofNat 8 (k % 8) ^^^ b)
  | .n => bitOf v.toNat 7
  | .c => 255 < k

/-- The undocumented bits Y and X (R45). -/
def flagsYX : List Flag := [.y, .x]

end Sys2Proof.Machine
end

