-- ==== Sys2Proof/Certificates/Slice0/Obligations.lean ====
section
/-!
DEFINITION. Sys2Proof/Certificates/Slice0/Obligations.lean: the statements for the provers. A statement about an instruction gives
its whole next state as an update of `State.advance`: a field that the update does not name keeps its value, and memory is
described by what every address reads. In such an update a field set to `t`'s own value is one that the clauses after it
describe.
-/

open Sys2Proof Sys2Proof.Machine

/-! ### Reset, invariants and whole-machine rules -/

/-- R600 (with R62): power-on reset under any parameters, inputs, initial memory and RESET_DRAW. No maskable interrupt can be accepted
there. Under UNSET_READ = fault R62 gives each unspecified register an unset mark instead of a value: that its field holds the
draw there too is the model's choice (DESIGN CHOICE, log entry 20). -/
def Obligations.PowerOnResetLeavesTheTableOfTheSpec : Prop :=
  ∀ (cfg : Params) (env : Env) (m : Memory) (w : ResetDraw), let s := State.powerOn cfg env m w
    s.pc = 0 ∧ s.iff1 = false ∧ s.iff2 = false ∧ s.im = .im0 ∧ s.i = 0 ∧ s.r = 0 ∧
    s.halted = false ∧ s.eiShadow = false ∧ s.nmiLatch = false ∧ s.clock = 0 ∧ s.mem = m ∧ s.ioLog = [] ∧
    s.dbg = ⟨.idle, [], [], 0, none, []⟩ ∧ s.faulted = none ∧ s.refused = none ∧ s.cfg = cfg ∧ s.env = env ∧
    s.af = w.af ∧ s.bc = w.bc ∧ s.de = w.de ∧ s.hl = w.hl ∧
    join s.a' s.f' = w.af' ∧ join s.b' s.c' = w.bc' ∧ join s.d' s.e' = w.de' ∧ join s.h' s.l' = w.hl' ∧
    s.ix = w.ix ∧ s.iy = w.iy ∧ s.sp = w.sp ∧
    (cfg.unsetRead = .draw → s.unset = []) ∧ (cfg.unsetRead = .fault → ∀ x : Loc, x ∈ s.unset) ∧
    ∀ sample, s.acceptsInt sample = false

/-- The invariant holds at `State.reset`, and at every power-on with a canonical initial memory. -/
def Obligations.ResetMeetsTheStateInvariant : Prop :=
  State.reset.Inv ∧
  ∀ (cfg : Params) (env : Env) (m : Memory) (w : ResetDraw), Memory.wf m → (State.powerOn cfg env m w).Inv

/-- Every step from every state that meets the invariant leads to one that does (R56, R62, R100, R470, R560). -/
def Obligations.EveryStepKeepsTheStateInvariant : Prop :=
  ∀ s t : State, s.Inv → step s = .next t → t.Inv

/-- R106 and R601: no step changes a byte of ROM_REGION, the parameters, the breakpoints, the watchpoints or `next_id`, and no
step takes the clock back. -/
def Obligations.NoStepChangesRomOrParametersOrBreakpoints : Prop :=
  ∀ s t : State, step s = .next t →
    (∀ a, s.inRom a = true → t.memRead a = s.memRead a) ∧ t.cfg = s.cfg ∧
    t.dbg.bps = s.dbg.bps ∧ t.dbg.wps = s.dbg.wps ∧ t.dbg.nextId = s.dbg.nextId ∧ s.clock ≤ t.clock

/-- R42, R51, R52, R53, R54, R55: which instructions write the control registers and the shadow bank. -/
def Obligations.ControlRegistersHaveOnlyTheirNamedWriters : Prop :=
  ∀ (i : Instr) (s t : State), exec i s = .next t →
    (t.i ≠ s.i → i = .ldIA) ∧
    (t.r.getLsbD 7 ≠ s.r.getLsbD 7 → i = .ldRfshA) ∧
    (t.im ≠ s.im → i = .im0 ∨ i = .im1 ∨ i = .im2 ∨ ∃ y, i = .imMirror y) ∧
    (t.iff1 ≠ s.iff1 → i = .di ∨ i = .ei ∨ i = .retn ∨ i = .reti ∨ ∃ y, i = .retnMirror y) ∧
    (t.iff2 ≠ s.iff2 → i = .di ∨ i = .ei) ∧
    (t.halted ≠ s.halted → i = .halt) ∧
    (t.eiShadow = true ↔ i = .ei) ∧
    ((t.a' ≠ s.a' ∨ t.f' ≠ s.f') → i = .exAfAf) ∧
    ((t.b' ≠ s.b' ∨ t.c' ≠ s.c' ∨ t.d' ≠ s.d' ∨ t.e' ≠ s.e' ∨ t.h' ≠ s.h' ∨ t.l' ≠ s.l') → i = .exx) ∧
    t.nmiLatch = s.nmiLatch ∧ t.dbg = s.dbg ∧ t.cfg = s.cfg ∧ t.faulted = s.faulted ∧ t.refused = s.refused ∧
    t.unset = s.unset ∧ t.env.int = s.env.int ∧ t.env.reset = s.env.reset

/-- R141, R157, R160, R500, R521: an instruction completes, at one of its two costs, unless it is an undocumented form under
UNDOC = refuse; that one is refused by its form. -/
def Obligations.EveryInstructionCompletesAtItsCostOrIsRefused : Prop :=
  ∀ (i : Instr) (s : State),
    (s.cfg.undoc = .silicon ∨ i.info.documented = true →
      ∃ t, exec i s = .next t ∧ (t.clock = s.clock + i.info.t ∨ t.clock = s.clock + i.info.tTaken)) ∧
    (s.cfg.undoc = .refuse → i.info.documented = false → exec i s = .refused (.undocumented i.info.form))

/-- R41, R43, R48: a register written reads back, and every other register of its file keeps its value. -/
def Obligations.RegisterFileReadsBackWhatWasWritten : Prop :=
  ∀ (s : State) (v : Byte) (w : Word),
    (∀ k j : Reg8, (s.setReg8 k v).reg8 j = if j = k then v else s.reg8 j) ∧
    (∀ k : Reg8, ∃ a b c d e h l,
      s.setReg8 k v = { s with a := a, b := b, c := c, d := d, e := e, h := h, l := l }) ∧
    (∀ p : RP, (s.setRP p w).rp p = w) ∧ (∀ p : RP2, (s.setRP2 p w).rp2 p = w) ∧
    (∀ p q : RP, p ≠ q → (s.setRP p w).rp q = s.rp q) ∧
    (∀ x y : Idx, (s.setIdx x w).idx y = if y = x then w else s.idx y) ∧
    (∀ (x y : Idx) (p q : Half), (s.setHalf x p v).half y q = if x = y ∧ p = q then v else s.half y q) ∧
    (∀ (x : Idx) (k j : XReg8), (s.setXReg8 x k v).xreg8 x j = if j = k then v else s.xreg8 x j) ∧
    (∀ p : RP, s.rp p = match p with
      | .bc => BitVec.ofNat 16 (256 * s.b.toNat + s.c.toNat)
      | .de => BitVec.ofNat 16 (256 * s.d.toNat + s.e.toNat)
      | .hl => BitVec.ofNat 16 (256 * s.h.toNat + s.l.toNat)
      | .sp => s.sp)

/-- R100, R101, R103, R106: a read sees the latest write to its address, a write into ROM_REGION has no effect, and nothing else of the
state changes; a Word is little-endian at `a` and `a + 1` modulo 2^16, and, outside ROM_REGION, reads back. -/
def Obligations.MemoryReadsSeeTheLatestWrite : Prop :=
  ∀ (s : State) (a w : Word) (v : Byte),
    StoresByte s (s.memWrite a v) a v ∧ s.memWrite a v = { s with mem := (s.memWrite a v).mem } ∧
    (s.inRom a = true → s.memWrite a v = s) ∧
    s.memRead16 a = s.wordAt a ∧ StoresWord s (s.memWrite16 a w) a w ∧
    (s.inRom a = false → s.inRom (a + 1) = false → (s.memWrite16 a w).memRead16 a = w) ∧
    s.memRead16 0xFFFF = BitVec.ofNat 16 (256 * (s.memRead 0).toNat + (s.memRead 0xFFFF).toNat)

/-! ### Decoding -/

/-- Words of every map, written from the encodings of the rules, decode to the forms they stand for. How a word numbers the bytes
is the model's reading of the opcode table, not the spec's words (DEDUCED, log entry 18): bits 7 to 0 are the byte fetched
first. -/
def Obligations.SampleWordsDecodeToTheirForms : Prop :=
  decodeTableWord 16 0x803E = some (.ldRN .a 0x80) ∧
  decodeTableWord 24 0x123401 = some (.ldDdNn .bc 0x1234) ∧
  decodeTableWord 24 0x8046DD = some (.ldRIxd .ix .b 0x80) ∧
  decodeTableWord 32 0x9936FDFD = some (.ldIxdN .iy 0x99 0) ∧
  decodeTableWord 16 0xB0ED = some .ldir ∧
  decodeTableWord 16 0x77ED = some (.nopEdHole 0x77) ∧
  decodeTableWord 16 0x30CB = some (.sllR .b) ∧
  decodeTableWord 32 0x3AFFCBFD = some (.srlIxdR .iy 0xFF .d) ∧
  decodeTableWord 16 0x47DD = some (.ldRR .b .a)

/-- R140 to R155: the bytes of every well-formed decoded instruction, wasted prefixes included, decode to it, wherever they stand,
and they are `length` bytes. -/
def Obligations.DecodeReturnsEveryEncodedInstruction : Prop :=
  ∀ (d : Decoded) (rd : Word → Byte) (pc : Word), d.wf = true →
    (∀ k, k < d.encode.length → some (rd (pc + BitVec.ofNat 16 k)) = d.encode[k]?) →
    decodeFrom rd pc = .ok d ∧ d.encode.length = d.length

/-- R141: what decode answers is well formed, and its encoding is the bytes that stand at the address: no bit of them is lost, and
no other bytes matter. -/
def Obligations.DecodedInstructionEncodesToTheBytesRead : Prop :=
  ∀ (d : Decoded) (rd : Word → Byte) (pc : Word), decodeFrom rd pc = .ok d →
    d.wf = true ∧ (∀ k, k < d.encode.length → d.encode[k]? = some (rd (pc + BitVec.ofNat 16 k))) ∧
    ∀ rd' : Word → Byte, (∀ k, k < d.length → rd' (pc + BitVec.ofNat 16 k) = rd (pc + BitVec.ofNat 16 k)) →
      decodeFrom rd' pc = .ok d

/-- R151, R156: a DD or FD prefix selects an index register exactly before one of the 85 indexed bytes or CB, and decode does not return
exactly when every byte of memory is DD or FD. -/
def Obligations.PrefixBytesSelectAnIndexRegisterOrHang : Prop :=
  (∀ (x : Idx) (op n n2 : Byte), (xdMap x op n n2).isSome = (isIndexedByte op || op == 0xCB)) ∧
  ((List.range 256).countP (fun k => isIndexedByte (BitVec.ofNat 8 k)) = 85) ∧
  ∀ (rd : Word → Byte) (pc : Word), decodeFrom rd pc = .prefixHang ↔ ∀ a, rd a = 0xDD ∨ rd a = 0xFD

/-- R150: ED and a second byte are a hole exactly for the listed bytes, of which there are 178; a hole takes both bytes, 8 T-states and 2
M1 cycles and changes nothing else, under either UNDOC. -/
def Obligations.EdHolesAreTheListedBytesAndDoNothing : Prop :=
  (∀ op n n2 : Byte, edMap op n n2 = .nopEdHole op ↔ isEdHole op = true) ∧
  (∀ op : Byte, isEdHole op = true ↔
    op.toNat ≤ 0x3F ∨ op = 0x77 ∨ op = 0x7F ∨ (0x80 ≤ op.toNat ∧ op.toNat ≤ 0x9F) ∨ (0xA4 ≤ op.toNat ∧ op.toNat ≤ 0xA7) ∨
    (0xAC ≤ op.toNat ∧ op.toNat ≤ 0xAF) ∨ (0xB4 ≤ op.toNat ∧ op.toNat ≤ 0xB7) ∨ (0xBC ≤ op.toNat ∧ op.toNat ≤ 0xBF) ∨
    0xC0 ≤ op.toNat) ∧
  ((List.range 256).countP (fun k => isEdHole (BitVec.ofNat 8 k)) = 178) ∧
  (∀ (rd : Word → Byte) (pc : Word), rd pc = 0xED → isEdHole (rd (pc + 1)) = true →
    decodeFrom rd pc = .ok ⟨[], .nopEdHole (rd (pc + 1))⟩) ∧
  ∀ (op : Byte) (s : State), exec (.nopEdHole op) s = .next (s.advance 2 2 8)

/-! ### The engine -/

/-- R520, R521, R348: at a boundary with no reset, mark, interrupt or HALT, `step` runs the instruction decoded at PC: the wasted
prefix bytes move PC and R by one each, `exec` does the rest, and each wasted byte adds 4 T-states. Under UNSET_READ = fault the
guard stands around it. -/
def Obligations.StepRunsTheDecodedInstruction : Prop :=
  ∀ (s : State) (d : Decoded), s.engineReady → s.interruptPending = false → s.halted = false →
    decodeFrom s.memRead s.pc = .ok d →
    step s = s.guardUnset (readLocs d.instr s) (marksAfter d.instr)
      (match exec d.instr { s.advance d.wasted.length d.wasted.length 0 with eiShadow := s.eiShadow, env := s.tick.env } with
       | .next t => .next { t with clock := t.clock + 4 * d.wasted.length }
       | .fault r => .fault r
       | .refused r => .refused r) ∧
    (s.cfg.unsetRead = .draw → ∀ locs marks res, s.guardUnset locs marks res = res)

/-- R522: a halted boundary with no interrupt accepted is a halted tick. Only a reset or an accepted interrupt ends the wait (R534). -/
def Obligations.HaltedTickOnlyCountsRAndTheClock : Prop :=
  (∀ s : State, s.engineReady → s.interruptPending = false → s.halted = true →
    step s = .next { s.advance 0 1 4 with env := s.tick.env }) ∧
  ∀ s t : State, step s = .next t → s.halted = true → t.halted = false → s.resetNow = true ∨ s.interruptPending = true

/-- R530: the NMI acknowledge, whatever else is pending. -/
def Obligations.NmiAcknowledgeEntersAt0066 : Prop :=
  ∀ s : State, s.engineReady → s.cfg.unsetRead = .draw → s.nmiLatch = true ∨ s.intNow.nmiEdge = true →
    ∃ t, step s = .next t ∧
      t = { s.advance 0 1 11 with
            nmiLatch := false, halted := false, iff1 := false, sp := s.sp - 2, pc := 0x0066, mem := t.mem, env := s.tick.env } ∧
      StoresWord s t (s.sp - 2) s.pc

/-- R531, R533: the maskable acknowledge in mode 1, in mode 0 with one RST byte, and in mode 2, where the table entry is read after
the push. No data reads as 0xFF. -/
def Obligations.MaskableAcknowledgeEntersByMode : Prop :=
  ∀ s : State, s.engineReady → s.cfg.unsetRead = .draw → s.nmiLatch = false → s.intNow.nmiEdge = false →
    s.intNow.intLine = true → s.iff1 = true → s.eiShadow = false →
    let enters (tStates : Nat) (entry : State → Word) : Prop := ∃ t, step s = .next t ∧
      t = { s.advance 0 1 tStates with
            halted := false, iff1 := false, iff2 := false, nmiLatch := false, sp := s.sp - 2, pc := entry t, mem := t.mem,
            env := s.tick.env } ∧
      StoresWord s t (s.sp - 2) s.pc
    (s.im = .im1 → enters 13 (fun _ => 0x0038)) ∧
    (s.im = .im0 → ∀ y : BitVec 3, s.intNow.intData = [BitVec.ofNat 8 (0xC7 + 8 * y.toNat)] →
      enters 13 (fun _ => BitVec.ofNat 16 (8 * y.toNat))) ∧
    (s.im = .im0 → s.intNow.intData = [] → enters 13 (fun _ => 0x0038)) ∧
    (s.im = .im2 → ∀ b more, s.intNow.intData = b :: more →
      enters 19 (fun t => t.wordAt (BitVec.ofNat 16 (256 * s.i.toNat + b.toNat)))) ∧
    (s.im = .im2 → s.intNow.intData = [] →
      enters 19 (fun t => t.wordAt (BitVec.ofNat 16 (256 * s.i.toNat + 0xFF))))

/-- R502, R531: in mode 0, data that is neither empty nor one RST byte ends the acknowledge in the refusal IM0Data. -/
def Obligations.ModeZeroRefusesDataThatIsNoRst : Prop :=
  ∀ s : State, s.engineReady → s.nmiLatch = false → s.intNow.nmiEdge = false →
    s.intNow.intLine = true → s.iff1 = true → s.eiShadow = false → s.im = .im0 → s.intNow.intData ≠ [] →
    (∀ y : BitVec 3, s.intNow.intData ≠ [BitVec.ofNat 8 (0xC7 + 8 * y.toNat)]) →
    step s = .refused (.im0Data s.intNow.intData)

/-- R532, R611: the EI shadow follows an EI and nothing else, and while it lasts no maskable interrupt is accepted: the step is the
one the machine would make with the line low. -/
def Obligations.EiShadowHoldsTheMaskableInterruptOff : Prop :=
  (∀ s t : State, step s = .next t → t.eiShadow = true →
    ∃ d, decodeFrom s.memRead s.pc = .ok d ∧ d.instr = .ei) ∧
  (∀ s : State, s.engineReady → s.nmiLatch = false → s.intNow.nmiEdge = false → s.eiShadow = true →
    step s = if s.halted then .next s.tick.haltTick else s.tick.instrStep)

/-- R64, R501, R502, R563, R570, R601: a marked state takes no engine step, `step()` and `run()` of it return its mark at once and
change nothing, and a step, a reset and `step()` keep a mark. R503, R575: no marked state and no stuck state is final. Where R64 says only that no step is enabled, the model's choice
(DEDUCED, log entry 12) is that the step of a marked state answers its mark, the fault first. -/
def Obligations.MarksStopTheEngineAndStay : Prop :=
  (∀ s : State, s.resetNow = false → ∀ r, s.faulted = some r → step s = .fault (.invariant r)) ∧
  (∀ s : State, s.resetNow = false → s.faulted = none → ∀ r, s.refused = some r → step s = .refused r) ∧
  (∀ s t : State, step s = .next t → t.faulted = s.faulted ∧ t.refused = s.refused) ∧
  (∀ (s : State) (stop : Nat → Bool) (fuel : Nat),
    (∀ r, s.faulted = some r → s.debugStep = some (.fault r, s) ∧ s.debugRun stop fuel = .returned (.fault r) s) ∧
    (∀ r, s.faulted = none → s.refused = some r →
      s.debugStep = some (.refused r, s) ∧ s.debugRun stop fuel = .returned (.refused r) s)) ∧
  (∀ (s t : State) (ret : DbgReturn), s.debugStep = some (ret, t) →
    (s.faulted ≠ none → t.faulted = s.faulted) ∧ (s.refused ≠ none → t.refused = s.refused)) ∧
  (∀ s : State, s.faulted ≠ none ∨ s.refused ≠ none ∨ step s = .fault .prefixHang → s.isFinal = false)

/-- R601: the warm reset, taken before the interrupt sample. The model's readings: it is taken in a marked state too (DEDUCED, log
entry 13), and the boundary's interrupt sample is passed over, which `env := s.tick.env` says (DEDUCED, log entry 4). -/
def Obligations.WarmResetClearsControlStateOnly : Prop :=
  ∀ s : State, s.resetNow = true →
    step s = .next { s with
      pc := 0, iff1 := false, iff2 := false, im := .im0, i := 0, r := 0, halted := false, eiShadow := false, nmiLatch := false,
      dbg := { s.dbg with mode := .idle, stopBp := none, fired := [] }, env := s.tick.env }

/-- R500, R501, R502, R503: from a state with no mark, a step stops only as the spec lists: on a prefix chain that never ends, on an
undocumented form under UNDOC = refuse, on mode 0 data, or on an unset read under UNSET_READ = fault. -/
def Obligations.StepStopsOnlyAsTheSpecLists : Prop :=
  ∀ s : State, s.faulted = none → s.refused = none →
    (∀ x, step s = .fault x →
      (x = .prefixHang ∧ ∀ a, s.memRead a = 0xDD ∨ s.memRead a = 0xFD) ∨
      (s.cfg.unsetRead = .fault ∧ ∃ loc, loc ∈ s.unset ∧ x = .invariant (.unsetRead loc))) ∧
    (∀ x, step s = .refused x →
      (s.im = .im0 ∧ x = .im0Data s.intNow.intData) ∨
      (s.cfg.undoc = .refuse ∧ ∃ d, decodeFrom s.memRead s.pc = .ok d ∧ d.documented = false ∧ x = .undocumented d.form))

/-- R62: under UNSET_READ = fault, an instruction that reads a marked register or flag bit faults; else the marks of what it writes
are gone and the other marks stay, but that `EX AF,AF'` and `EXX` move them. -/
def Obligations.UnsetReadFaultsAndWritesClearMarks : Prop :=
  ∀ (s : State) (d : Decoded), s.engineReady → s.interruptPending = false → s.halted = false → s.cfg.unsetRead = .fault →
    decodeFrom s.memRead s.pc = .ok d → s.cfg.undoc = .silicon →
    ((∃ loc, loc ∈ readLocs d.instr s ∧ loc ∈ s.unset) →
      ∃ loc, loc ∈ readLocs d.instr s ∧ loc ∈ s.unset ∧ step s = .fault (.invariant (.unsetRead loc))) ∧
    ((∀ loc, loc ∈ readLocs d.instr s → loc ∉ s.unset) →
      ∃ t, step s = .next t ∧
        (d.instr ≠ .exAfAf → d.instr ≠ .exx → ∀ loc, loc ∈ t.unset ↔ loc ∈ s.unset ∧ loc ∉ writtenLocs d.instr) ∧
        (d.instr = .exAfAf → ∀ loc, loc ∈ t.unset ↔ swapAF loc ∈ s.unset) ∧
        (d.instr = .exx → ∀ loc, loc ∈ t.unset ↔ swapX loc ∈ s.unset))

/-! ### 8-bit loads -/

/-- R200, R201, R202, R205, R208, R209, R210: the loads into an 8-bit register; R218, R219: the undocumented loads on index halves, under
UNDOC = silicon. -/
def Obligations.ByteLoadsWriteOneRegister : Prop :=
  ∀ s : State,
    (∀ y z, exec (.ldRR y z) s = .next ((s.advance 1 1 4).setReg8 y (s.reg8 z))) ∧
    (∀ r n, exec (.ldRN r n) s = .next ((s.advance 2 1 7).setReg8 r n)) ∧
    (∀ r, exec (.ldRHlInd r) s = .next ((s.advance 1 1 7).setReg8 r (s.memRead s.hl))) ∧
    (∀ x r d, exec (.ldRIxd x r d) s = .next ((s.advance 3 2 19).setReg8 r (s.memRead (s.indexedAddr x d)))) ∧
    exec .ldABcInd s = .next { s.advance 1 1 7 with a := s.memRead s.bc } ∧
    exec .ldADeInd s = .next { s.advance 1 1 7 with a := s.memRead s.de } ∧
    (∀ nn, exec (.ldANnInd nn) s = .next { s.advance 3 1 13 with a := s.memRead nn }) ∧
    (s.cfg.undoc = .silicon →
      (∀ x y z, exec (.ldHalves x y z) s = .next ((s.advance 2 2 8).setXReg8 x y (s.xreg8 x z))) ∧
      (∀ x p n, exec (.ldHalfN x p n) s = .next ((s.advance 3 2 11).setHalf x p n)))

/-- R203, R204, R206, R207, R211, R212, R213: the stores of one byte; every other byte of memory and everything else is kept. -/
def Obligations.ByteStoresWriteOneByteOfMemory : Prop :=
  ∀ s : State,
    let stores (i : Instr) (length m1 tStates : Nat) (a : Word) (v : Byte) : Prop :=
      Completes i s fun t => t = { s.advance length m1 tStates with mem := t.mem } ∧ StoresByte s t a v
    (∀ r, stores (.ldHlIndR r) 1 1 7 s.hl (s.reg8 r)) ∧
    (∀ n, stores (.ldHlIndN n) 2 1 10 s.hl n) ∧
    (∀ x d r, stores (.ldIxdR x d r) 3 2 19 (s.indexedAddr x d) (s.reg8 r)) ∧
    (∀ x d n, stores (.ldIxdN x d n) 4 2 19 (s.indexedAddr x d) n) ∧
    stores .ldBcIndA 1 1 7 s.bc s.a ∧
    stores .ldDeIndA 1 1 7 s.de s.a ∧
    (∀ nn, stores (.ldNnIndA nn) 3 1 13 nn s.a)

/-- R214 to R217: the loads of and into I and R. `LD A,R` reads R after its own two increments, `LD R,A` overrides them. -/
def Obligations.InterruptAndRefreshRegisterLoads : Prop :=
  ∀ s : State,
    let reads (i : Instr) (v : Byte) : Prop :=
      Completes i s fun t => t = { s.advance 2 2 9 with a := v, f := t.f, draws := t.draws } ∧
        FlagsFollow s t (resultFlags v false s.iff2 false (s.flag .c)) flagsYX []
    reads .ldAI s.i ∧ reads .ldARfsh (s.advance 2 2 9).r ∧
    exec .ldIA s = .next { s.advance 2 2 9 with i := s.a } ∧
    exec .ldRfshA s = .next { s.advance 2 2 9 with r := s.a }

/-! ### 16-bit loads and the stack -/

/-- R240 to R244, R248, R249: the loads into a 16-bit register. -/
def Obligations.WordLoadsWriteOnePair : Prop :=
  ∀ s : State,
    (∀ dd nn, exec (.ldDdNn dd nn) s = .next ((s.advance 3 1 10).setRP dd nn)) ∧
    (∀ x nn, exec (.ldIxNn x nn) s = .next ((s.advance 4 2 14).setIdx x nn)) ∧
    (∀ nn, exec (.ldHlNnInd nn) s = .next ((s.advance 3 1 16).setRP .hl (s.wordAt nn))) ∧
    (∀ dd nn, exec (.ldDdNnInd dd nn) s = .next ((s.advance 4 2 20).setRP dd (s.wordAt nn))) ∧
    (∀ x nn, exec (.ldIxNnInd x nn) s = .next ((s.advance 4 2 20).setIdx x (s.wordAt nn))) ∧
    exec .ldSpHl s = .next { s.advance 1 1 6 with sp := s.hl } ∧
    (∀ x, exec (.ldSpIx x) s = .next { s.advance 2 2 10 with sp := s.idx x })

/-- R245, R246, R247: the stores of a Word, low byte first. -/
def Obligations.WordStoresWriteTwoBytesOfMemory : Prop :=
  ∀ s : State,
    let stores (i : Instr) (length m1 tStates : Nat) (a w : Word) : Prop :=
      Completes i s fun t => t = { s.advance length m1 tStates with mem := t.mem } ∧ StoresWord s t a w
    (∀ nn, stores (.ldNnIndHl nn) 3 1 16 nn s.hl) ∧
    (∀ dd nn, stores (.ldNnIndDd dd nn) 4 2 20 nn (s.rp dd)) ∧
    (∀ x nn, stores (.ldNnIndIx x nn) 4 2 20 nn (s.idx x))

/-- R250, R251, R9: a push stores the Word below the old SP, high byte at SP - 1 and low byte at SP - 2, and SP falls by 2. -/
def Obligations.PushStoresBelowTheStackPointer : Prop :=
  ∀ s : State,
    let pushes (i : Instr) (length m1 tStates : Nat) (w : Word) : Prop :=
      Completes i s fun t => t = { s.advance length m1 tStates with sp := s.sp - 2, mem := t.mem } ∧ StoresWord s t (s.sp - 2) w
    (∀ qq, pushes (.pushQq qq) 1 1 11 (s.rp2 qq)) ∧ (∀ x, pushes (.pushIx x) 2 2 15 (s.idx x))

/-- R252, R253, R9: a pop loads the Word at SP, all 8 bits of F for AF, and SP rises by 2. R9, R46, R250, R252: a PUSH and then a POP
of any pair, with a writable stack, gives the pair its old value and SP its own. -/
def Obligations.PopLoadsFromTheStackPointer : Prop :=
  ∀ s : State,
    (∀ qq, exec (.popQq qq) s = .next ({ s.advance 1 1 10 with sp := s.sp + 2 }.setRP2 qq (s.wordAt s.sp))) ∧
    (∀ x, exec (.popIx x) s = .next ({ s.advance 2 2 14 with sp := s.sp + 2 }.setIdx x (s.wordAt s.sp))) ∧
    ∀ (t : State) (qq rr : RP2), s.inRom (s.sp - 1) = false → s.inRom (s.sp - 2) = false →
      exec (.pushQq qq) s = .next t →
      ∃ u, exec (.popQq rr) t = .next u ∧ u.rp2 rr = s.rp2 qq ∧ u.sp = s.sp

/-! ### Texts -/

/-- The form whose bytes the assembler gives for the text of a form. R158 gives the ED duplicates of `LD (nn),HL` and `LD HL,(nn)`
the text of the unprefixed forms (U9), and the model's choice is to assemble that text to the unprefixed form (log entry
19). -/
def shortestForm : Instr → Instr
  | .ldNnIndDd .hl nn => .ldNnIndHl nn
  | .ldDdNnInd .hl nn => .ldHlNnInd nn
  | i => i

/-- R158, R159, R162: the text of every well-formed instruction, documented or not, names that instruction, and nothing but
instructions of that text; of a documented one, assembling the text gives back the bytes, those of the unprefixed form for the
two ED duplicates; and every other spelling of R159 is read as the text is. -/
def Obligations.AssemblingATextGivesItsBytesBack : Prop :=
  ∀ i : Instr, i.wf = true →
    i ∈ assembleForms (instrText i) ∧
    (∀ j ∈ assembleForms (instrText i), instrText j = instrText i ∧ j.wf = true) ∧
    (i.info.documented = true → assemble (instrText i) = some (encode (shortestForm i))) ∧
    ∀ t ∈ spellings i, assembleForms t = assembleForms (instrText i)

/-! ### Exchanges -/

/-- R260, R261, R262, R263, R264: the exchanges. -/
def Obligations.ExchangesSwapTheirOperands : Prop :=
  ∀ s : State,
    exec .exAfAf s = .next { s.advance 1 1 4 with a := s.a', f := s.f', a' := s.a, f' := s.f } ∧
    exec .exx s = .next { s.advance 1 1 4 with
      b := s.b', c := s.c', d := s.d', e := s.e', h := s.h', l := s.l',
      b' := s.b, c' := s.c, d' := s.d, e' := s.e, h' := s.h, l' := s.l } ∧
    exec .exDeHl s = .next { s.advance 1 1 4 with d := s.h, e := s.l, h := s.d, l := s.e } ∧
    Completes .exSpHl s (fun t => t = { s.advance 1 1 19 with h := t.h, l := t.l, mem := t.mem } ∧ t.hl = s.wordAt s.sp ∧
      StoresWord s t s.sp s.hl) ∧
    ∀ x, Completes (.exSpIx x) s (fun t => t = { (s.advance 2 2 23).setIdx x (s.wordAt s.sp) with mem := t.mem } ∧
      StoresWord s t s.sp (s.idx x))

/-! ### Block transfer and search -/

/-- What one iteration of a block transfer does with HL and DE moved by `move`, PC, F and the cost apart (R281, R283). -/
def copiesOneByte (s t : State) (move : Word) : Prop :=
  t.hl = s.hl + move ∧ t.de = s.de + move ∧ t.bc = s.bc - 1 ∧ StoresByte s t s.de (s.memRead s.hl)

/-- F after one iteration of a block transfer (R281): Y and X are bits 1 and 3 of A plus the byte. -/
def copyFlags (s : State) : Flag → Bool
  | .s => s.flag .s
  | .z => s.flag .z
  | .y => bitOf (s.a.toNat + (s.memRead s.hl).toNat) 1
  | .h => false
  | .x => bitOf (s.a.toNat + (s.memRead s.hl).toNat) 3
  | .pv => s.bc ≠ 1
  | .n => false
  | .c => s.flag .c

/-- R281 to R284, R280: LDI and LDD copy one byte; LDIR and LDDR do so and repeat while BC is not 0, with PC back at the
instruction, 21 T-states, and Y and X drawn. -/
def Obligations.BlockTransferCopiesOneByteAndRepeats : Prop :=
  ∀ s : State,
    let copies (i : Instr) (move : Word) (repeats : Bool) : Prop :=
      Completes i s fun t =>
        t = { s.advance (if repeats then 0 else 2) 2 (if repeats then 21 else 16) with
              b := t.b, c := t.c, d := t.d, e := t.e, h := t.h, l := t.l, f := t.f, draws := t.draws, mem := t.mem } ∧
        copiesOneByte s t move ∧ FlagsFollow s t (copyFlags s) flagsYX (if repeats then flagsYX else [])
    copies .ldi 1 false ∧ copies .ldd (-1) false ∧ copies .ldir 1 (s.bc ≠ 1) ∧ copies .lddr (-1) (s.bc ≠ 1)

/-- F after one iteration of a block search (R285): Y and X are bits 1 and 3 of A - (HL) - H. -/
def searchFlags (s : State) : Flag → Bool :=
  let v := s.memRead s.hl
  let half := decide (s.a.toNat % 16 < v.toNat % 16)
  fun
  | .s => bitOf (256 + s.a.toNat - v.toNat) 7
  | .z => s.a = v
  | .y => bitOf (512 + s.a.toNat - v.toNat - half.toNat) 1
  | .h => half
  | .x => bitOf (512 + s.a.toNat - v.toNat - half.toNat) 3
  | .pv => s.bc ≠ 1
  | .n => true
  | .c => s.flag .c

/-- R285 to R288, R280: CPI and CPD compare A with one byte; CPIR and CPDR do so and repeat while BC is not 0 and there is no
match. -/
def Obligations.BlockSearchComparesOneByteAndRepeats : Prop :=
  ∀ s : State,
    let searches (i : Instr) (move : Word) (repeats : Bool) : Prop :=
      Completes i s fun t =>
        t = { s.advance (if repeats then 0 else 2) 2 (if repeats then 21 else 16) with
              b := t.b, c := t.c, h := t.h, l := t.l, f := t.f, draws := t.draws } ∧
        t.hl = s.hl + move ∧ t.bc = s.bc - 1 ∧
        FlagsFollow s t (searchFlags s) flagsYX (if repeats then flagsYX else [])
    let again : Bool := s.bc ≠ 1 ∧ s.a ≠ s.memRead s.hl
    searches .cpi 1 false ∧ searches .cpd (-1) false ∧ searches .cpir 1 again ∧ searches .cpdr (-1) again

/-- `n` instruction bodies of `i`, one after the other, from PC to PC (the fetches between them apart). -/
def execTimes (i : Instr) : Nat → State → Option State
  | 0, s => some s
  | n + 1, s =>
    match exec i s with
    | .next t => execTimes i n t
    | _ => none

/-- R282: LDIR with BC = n, n from 1, takes n iterations and `21*(n-1) + 16` T-states, and ends with BC = 0, HL and DE moved by n
and PC past the instruction. -/
def Obligations.LdirTakesOneIterationPerByte : Prop :=
  ∀ (s : State) (n : Nat), 1 ≤ n → n < 65536 → s.bc = BitVec.ofNat 16 n →
    ∃ t, execTimes .ldir n s = some t ∧ t.clock = s.clock + (21 * (n - 1) + 16) ∧ t.bc = 0 ∧ t.pc = s.pc + 2 ∧
      t.hl = s.hl + BitVec.ofNat 16 n ∧ t.de = s.de + BitVec.ofNat 16 n ∧ t.flag .pv = false

/-! ### 8-bit arithmetic and logic -/

/-- The five operand forms of an 8-bit operation of A (R305 to R313): the statement `P form length m1 tStates value` of each. The
form with an index half is undocumented. -/
def forEachAluForm (s : State) (P : Instr → Nat → Nat → Nat → Byte → Prop) (ofReg : Reg8 → Instr) (ofImm : Byte → Instr)
    (ofHl : Instr) (ofIndexed : Idx → Byte → Instr) (ofHalf : Idx → Half → Instr) : Prop :=
  (∀ r, P (ofReg r) 1 1 4 (s.reg8 r)) ∧ (∀ n, P (ofImm n) 2 1 7 n) ∧ P ofHl 1 1 7 (s.memRead s.hl) ∧
  (∀ x d, P (ofIndexed x d) 3 2 19 (s.memRead (s.indexedAddr x d))) ∧
  (s.cfg.undoc = .silicon → ∀ x p, P (ofHalf x p) 2 2 8 (s.half x p))

/-- The form completes with A the Byte `res` and F as `k` says, Y and X undocumented, and nothing else changed. -/
def writesAF (s : State) (i : Instr) (length m1 tStates : Nat) (res : Byte) (k : Flag → Bool) : Prop :=
  Completes i s fun t => t = { s.advance length m1 tStates with a := res, f := t.f, draws := t.draws } ∧
    FlagsFollow s t k flagsYX []

/-- R300, R304, R305, R306, R313: ADD and ADC, in every operand form, give the sum modulo 256, C the unsigned carry and P/V the signed
overflow. -/
def Obligations.AddAndAdcComputeSumAndFlags : Prop :=
  ∀ s : State,
    let adds (c : Bool) : Instr → Nat → Nat → Nat → Byte → Prop := fun i length m1 tStates v =>
      writesAF s i length m1 tStates (BitVec.ofNat 8 (s.a.toNat + v.toNat + c.toNat)) (addFlags s.a v c)
    forEachAluForm s (adds false) .addAR .addAN .addAHlInd .addAIxd .addAHalf ∧
    forEachAluForm s (adds (s.flag .c)) .adcAR .adcAN .adcAHlInd .adcAIxd .adcAHalf

/-- R301, R304, R307, R308, R313: SUB and SBC, in every operand form, give the difference modulo 256, C the unsigned borrow and P/V the
signed overflow. -/
def Obligations.SubAndSbcComputeDifferenceAndFlags : Prop :=
  ∀ s : State,
    let subtracts (c : Bool) : Instr → Nat → Nat → Nat → Byte → Prop := fun i length m1 tStates v =>
      writesAF s i length m1 tStates (BitVec.ofNat 8 (512 + s.a.toNat - v.toNat - c.toNat)) (subFlags s.a v c)
    forEachAluForm s (subtracts false) .subR .subN .subHlInd .subIxd .subHalf ∧
    forEachAluForm s (subtracts (s.flag .c)) .sbcAR .sbcAN .sbcAHlInd .sbcAIxd .sbcAHalf

/-- R312, R313: CP leaves A and sets F as SUB does, but for Y and X, which are the operand's. -/
def Obligations.CompareSetsTheFlagsOfSubtraction : Prop :=
  ∀ s : State,
    let compares : Instr → Nat → Nat → Nat → Byte → Prop := fun i length m1 tStates v =>
      writesAF s i length m1 tStates s.a
        (fun | .y => bitOf v.toNat 5 | .x => bitOf v.toNat 3 | g => subFlags s.a v false g)
    forEachAluForm s compares .cpR .cpN .cpHlInd .cpIxd .cpHalf

/-- R302, R309, R310, R311, R313: AND, XOR and OR, bit by bit, with P/V the parity, C and N clear, and H set by AND only. -/
def Obligations.LogicOperationsComputeBitsAndParity : Prop :=
  ∀ s : State,
    let computes (op : Bool → Bool → Bool) (h : Bool) : Instr → Nat → Nat → Nat → Byte → Prop := fun i length m1 tStates v =>
      ∃ res : Byte, (∀ j, j < 8 → res.getLsbD j = op (s.a.getLsbD j) (v.getLsbD j)) ∧
        writesAF s i length m1 tStates res (resultFlags res h (evenOnes res) false false)
    forEachAluForm s (computes and true) .andR .andN .andHlInd .andIxd .andHalf ∧
    forEachAluForm s (computes xor false) .xorR .xorN .xorHlInd .xorIxd .xorHalf ∧
    forEachAluForm s (computes or false) .orR .orN .orHlInd .orIxd .orHalf

/-- R303, R314 to R320: INC and DEC on a register, on memory and on an index half. -/
def Obligations.IncAndDecStepTheirOperand : Prop :=
  ∀ s : State,
    let next (v : Byte) (up : Bool) : Byte := BitVec.ofNat 8 (if up then v.toNat + 1 else v.toNat + 255)
    let inRegister (i : Instr) (up : Bool) (length m1 tStates : Nat) (v : Byte) (write : State → State) : Prop :=
      Completes i s fun t => t = { write (s.advance length m1 tStates) with f := t.f, draws := t.draws } ∧
        FlagsFollow s t (stepFlags s v up) flagsYX []
    let inPlace (i : Instr) (up : Bool) (length m1 tStates : Nat) (a : Word) : Prop :=
      Completes i s fun t => t = { s.advance length m1 tStates with f := t.f, draws := t.draws, mem := t.mem } ∧
        StoresByte s t a (next (s.memRead a) up) ∧ FlagsFollow s t (stepFlags s (s.memRead a) up) flagsYX []
    (∀ r, inRegister (.incR r) true 1 1 4 (s.reg8 r) (fun t => t.setReg8 r (next (s.reg8 r) true))) ∧
    (∀ r, inRegister (.decR r) false 1 1 4 (s.reg8 r) (fun t => t.setReg8 r (next (s.reg8 r) false))) ∧
    inPlace .incHlInd true 1 1 11 s.hl ∧ inPlace .decHlInd false 1 1 11 s.hl ∧
    (∀ x d, inPlace (.incIxd x d) true 3 2 23 (s.indexedAddr x d)) ∧
    (∀ x d, inPlace (.decIxd x d) false 3 2 23 (s.indexedAddr x d)) ∧
    (s.cfg.undoc = .silicon → ∀ x p,
      inRegister (.incHalf x p) true 2 2 8 (s.half x p) (fun t => t.setHalf x p (next (s.half x p) true)) ∧
      inRegister (.decHalf x p) false 2 2 8 (s.half x p) (fun t => t.setHalf x p (next (s.half x p) false)))

/-! ### CPU control -/

/-- DAA's correction (R340). -/
def daaCorrection (s : State) : Nat :=
  (if s.flag .h = true ∨ 9 < s.a.toNat % 16 then 6 else 0) + (if s.flag .c = true ∨ 0x99 < s.a.toNat then 0x60 else 0)

/-- R340: DAA adds its correction to A, or subtracts it after a subtraction; C once set stays set. -/
def Obligations.DaaAddsOrSubtractsItsCorrection : Prop :=
  ∀ s : State,
    let res : Byte := BitVec.ofNat 8
      (if s.flag .n then s.a.toNat + 256 - daaCorrection s else s.a.toNat + daaCorrection s)
    let half : Bool := if s.flag .n then s.flag .h = true ∧ s.a.toNat % 16 < 6 else 9 < s.a.toNat % 16
    writesAF s .daa 1 1 4 res
      (resultFlags res half (evenOnes res) (s.flag .n) (s.flag .c || decide (0x99 < s.a.toNat)))

/-- The Byte that holds the two decimal digits of a number below 100. -/
def bcd (n : Nat) : Byte := BitVec.ofNat 8 (n / 10 * 16 + n % 10)

/-- R305, R307, R340: after ADD A,n or SUB n on two-digit decimal numbers, DAA gives the decimal sum or difference modulo 100, with C the
decimal carry or borrow. -/
def Obligations.DaaAfterAddOrSubIsDecimal : Prop :=
  ∀ (s t : State) (m n : Nat), m < 100 → n < 100 → s.a = bcd m →
    (exec (.addAN (bcd n)) s = .next t → Completes .daa t fun u =>
      u.a = bcd ((m + n) % 100) ∧ u.flag .c = decide (100 ≤ m + n)) ∧
    (exec (.subN (bcd n)) s = .next t → Completes .daa t fun u =>
      u.a = bcd ((m + 100 - n) % 100) ∧ u.flag .c = decide (m < n))

/-- R341 to R345: CPL, NEG and its mirrors, CCF and SCF. -/
def Obligations.AccumulatorAndCarryControl : Prop :=
  ∀ s : State,
    let neg : Byte := BitVec.ofNat 8 (256 - s.a.toNat)
    let cpl : Byte := BitVec.ofNat 8 (255 - s.a.toNat)
    writesAF s .cpl 1 1 4 cpl
      (fun | .y => bitOf cpl.toNat 5 | .x => bitOf cpl.toNat 3 | .h => true | .n => true | g => s.flag g) ∧
    writesAF s .neg 2 2 8 neg
      (fun | .c => s.a ≠ 0 | .pv => s.a = 0x80 | .n => true | .h => s.a.toNat % 16 ≠ 0
           | g => resultFlags neg false false false false g) ∧
    (s.cfg.undoc = .silicon → ∀ y, exec (.negMirror y) s = exec .neg s) ∧
    Completes .ccf s (fun t => t = { s.advance 1 1 4 with f := t.f, draws := t.draws } ∧
      FlagsFollow s t (fun | .h => s.flag .c | .n => false | .c => !s.flag .c | g => s.flag g) [] flagsYX) ∧
    Completes .scf s (fun t => t = { s.advance 1 1 4 with f := t.f, draws := t.draws } ∧
      FlagsFollow s t (fun | .h => false | .n => false | .c => true | g => s.flag g) [] flagsYX)

/-- R346, R347, R349 to R351, R355, R356: NOP, the ED holes, HALT, DI, EI and IM, with the mirrors of IM. The model's choice (log entry
7): the constructors of the opcode table's prefix rows stand for the fetch of the prefix bytes alone, one byte, one M1 and 4
T-states each. -/
def Obligations.CpuControlInstructions : Prop :=
  ∀ s : State,
    exec .nop s = .next (s.advance 1 1 4) ∧
    (∀ op, exec (.nopEdHole op) s = .next (s.advance 2 2 8)) ∧
    exec .halt s = .next { s.advance 1 1 4 with halted := true } ∧
    exec .di s = .next { s.advance 1 1 4 with iff1 := false, iff2 := false } ∧
    exec .ei s = .next { s.advance 1 1 4 with iff1 := true, iff2 := true, eiShadow := true } ∧
    exec .im0 s = .next { s.advance 2 2 8 with im := .im0 } ∧
    exec .im1 s = .next { s.advance 2 2 8 with im := .im1 } ∧
    exec .im2 s = .next { s.advance 2 2 8 with im := .im2 } ∧
    (s.cfg.undoc = .silicon → ∀ y, exec (.imMirror y) s = .next { s.advance 2 2 8 with
      im := match y.toNat with | 2 | 6 => .im1 | 3 | 7 => .im2 | _ => .im0 }) ∧
    exec .prefixCB s = .next (s.advance 1 1 4) ∧ exec .prefixED s = .next (s.advance 1 1 4) ∧
    exec .prefixDD s = .next (s.advance 1 1 4) ∧ exec .prefixFD s = .next (s.advance 1 1 4) ∧
    ∀ x, exec (.prefixDDCB x) s = .next (s.advance 2 2 8)

/-! ### 16-bit arithmetic -/

/-- R370, R371, R372: ADD HL,ss and ADD IX,pp. -/
def Obligations.WideAddComputesSumAndCarries : Prop :=
  ∀ s : State,
    (∀ ss, Completes (.addHlSs ss) s fun t =>
      t = { (s.advance 1 1 11).setRP .hl (BitVec.ofNat 16 (s.hl.toNat + (s.rp ss).toNat)) with f := t.f, draws := t.draws } ∧
      FlagsFollow s t (wideAddFlags s s.hl (s.rp ss)) flagsYX []) ∧
    (∀ x pp,
      let w := match pp with | .bc => s.bc | .de => s.de | .self => s.idx x | .sp => s.sp
      Completes (.addIxPp x pp) s fun t =>
        t = { (s.advance 2 2 15).setIdx x (BitVec.ofNat 16 ((s.idx x).toNat + w.toNat)) with f := t.f, draws := t.draws } ∧
        FlagsFollow s t (wideAddFlags s (s.idx x) w) flagsYX [])

/-- R370, R373, R374: ADC HL,ss and SBC HL,ss, with all flags from the 16-bit result. -/
def Obligations.WideAdcAndSbcComputeAllFlags : Prop :=
  ∀ (s : State) (ss : RP),
    let computes (i : Instr) (n : Nat) (k : Flag → Bool) : Prop :=
      Completes i s fun t =>
        t = { (s.advance 2 2 15).setRP .hl (BitVec.ofNat 16 n) with f := t.f, draws := t.draws } ∧ FlagsFollow s t k flagsYX []
    computes (.adcHlSs ss) (s.hl.toNat + (s.rp ss).toNat + (s.flag .c).toNat) (addFlags16 s.hl (s.rp ss) (s.flag .c)) ∧
    computes (.sbcHlSs ss) (131072 + s.hl.toNat - (s.rp ss).toNat - (s.flag .c).toNat)
      (subFlags16 s.hl (s.rp ss) (s.flag .c))

/-- R375 to R378: INC and DEC of a pair or an index register wrap and set no flag; and their encodings. -/
def Obligations.WideIncAndDecWrapAndKeepFlags : Prop :=
  ∀ s : State,
    (∀ ss, exec (.incSs ss) s = .next ((s.advance 1 1 6).setRP ss (BitVec.ofNat 16 ((s.rp ss).toNat + 1)))) ∧
    (∀ ss, exec (.decSs ss) s = .next ((s.advance 1 1 6).setRP ss (BitVec.ofNat 16 ((s.rp ss).toNat + 65535)))) ∧
    (∀ x, exec (.incIx x) s = .next ((s.advance 2 2 10).setIdx x (BitVec.ofNat 16 ((s.idx x).toNat + 1)))) ∧
    (∀ x, exec (.decIx x) s = .next ((s.advance 2 2 10).setIdx x (BitVec.ofNat 16 ((s.idx x).toNat + 65535)))) ∧
    (∀ ss, encode (.incSs ss) = [match ss with | .bc => 0x03 | .de => 0x13 | .hl => 0x23 | .sp => 0x33]) ∧
    (∀ ss, encode (.decSs ss) = [match ss with | .bc => 0x0B | .de => 0x1B | .hl => 0x2B | .sp => 0x3B]) ∧
    (∀ x, encode (.incIx x) = [match x with | .ix => 0xDD | .iy => 0xFD, 0x23]) ∧
    (∀ x, encode (.decIx x) = [match x with | .ix => 0xDD | .iy => 0xFD, 0x2B])

/-! ### Rotates and shifts -/

/-- R391 to R394: the accumulator rotates keep S, Z and P/V. -/
def Obligations.AccumulatorRotatesKeepSignZeroParity : Prop :=
  ∀ s : State,
    let rotates (i : Instr) (k : Rot) : Prop :=
      let p := rotated k s.a (s.flag .c)
      writesAF s i 1 1 4 p.1
        (fun | .y => bitOf p.1.toNat 5 | .x => bitOf p.1.toNat 3 | .h => false | .n => false | .c => p.2 | g => s.flag g)
    rotates .rlca .rlc ∧ rotates .rrca .rrc ∧ rotates .rla .rl ∧ rotates .rra .rr

/-- R390, R395 to R402, R405: the CB rotates and shifts on a register, on memory, and on memory with a register copy. SLL and the
copying forms are undocumented. -/
def Obligations.RotatesAndShiftsComputeResultAndFlags : Prop :=
  ∀ s : State,
    let follows (t : State) (k : Rot) (v : Byte) : Prop :=
      let p := rotated k v (s.flag .c)
      FlagsFollow s t (resultFlags p.1 false (evenOnes p.1) false p.2) flagsYX []
    let inRegister (k : Rot) (r : Reg8) (i : Instr) : Prop :=
      Completes i s fun t =>
        t = { (s.advance 2 2 8).setReg8 r (rotated k (s.reg8 r) (s.flag .c)).1 with f := t.f, draws := t.draws } ∧
        follows t k (s.reg8 r)
    let inPlace (k : Rot) (i : Instr) (length tStates : Nat) (a : Word) : Prop :=
      Completes i s fun t =>
        t = { s.advance length 2 tStates with f := t.f, draws := t.draws, mem := t.mem } ∧
        StoresByte s t a (rotated k (s.memRead a) (s.flag .c)).1 ∧ follows t k (s.memRead a)
    let copies (k : Rot) (i : Instr) (a : Word) (r : Reg8) : Prop :=
      Completes i s fun t =>
        t = { (s.advance 4 2 23).setReg8 r (rotated k (s.memRead a) (s.flag .c)).1 with
              f := t.f, draws := t.draws, mem := t.mem } ∧
        StoresByte s t a (rotated k (s.memRead a) (s.flag .c)).1 ∧ follows t k (s.memRead a)
    let forms (k : Rot) (ofReg : Reg8 → Instr) (ofHl : Instr) (ofIndexed : Idx → Byte → Instr) : Prop :=
      (∀ r, inRegister k r (ofReg r)) ∧ inPlace k ofHl 2 15 s.hl ∧
      (∀ x d, inPlace k (ofIndexed x d) 4 23 (s.indexedAddr x d))
    let copyForms (k : Rot) (ofCopy : Idx → Byte → Reg8 → Instr) : Prop :=
      ∀ x d r, copies k (ofCopy x d r) (s.indexedAddr x d) r
    forms .rlc .rlcR .rlcHlInd .rlcIxd ∧ forms .rrc .rrcR .rrcHlInd .rrcIxd ∧
    forms .rl .rlR .rlHlInd .rlIxd ∧ forms .rr .rrR .rrHlInd .rrIxd ∧
    forms .sla .slaR .slaHlInd .slaIxd ∧ forms .sra .sraR .sraHlInd .sraIxd ∧
    forms .srl .srlR .srlHlInd .srlIxd ∧
    (s.cfg.undoc = .silicon →
      forms .sll .sllR .sllHlInd .sllIxd ∧
      copyForms .rlc .rlcIxdR ∧ copyForms .rrc .rrcIxdR ∧ copyForms .rl .rlIxdR ∧ copyForms .rr .rrIxdR ∧
      copyForms .sla .slaIxdR ∧ copyForms .sra .sraIxdR ∧ copyForms .sll .sllIxdR ∧ copyForms .srl .srlIxdR)

/-- R403, R404: RLD and RRD move the digits of the byte at HL and A's low digit round. -/
def Obligations.DigitRotatesMoveThreeDigits : Prop :=
  ∀ s : State,
    let v := (s.memRead s.hl).toNat
    let a := s.a.toNat
    let moves (i : Instr) (digit stored : Nat) : Prop :=
      let res : Byte := BitVec.ofNat 8 (a / 16 * 16 + digit)
      Completes i s fun t =>
        t = { s.advance 2 2 18 with a := res, f := t.f, draws := t.draws, mem := t.mem } ∧
        StoresByte s t s.hl (BitVec.ofNat 8 stored) ∧
        FlagsFollow s t (resultFlags res false (evenOnes res) false (s.flag .c)) flagsYX []
    moves .rld (v / 16) (v % 16 * 16 + a % 16) ∧ moves .rrd (v % 16) (a % 16 * 16 + v / 16)

/-! ### Bit operations -/

/-- R420 to R423: BIT tests a bit and writes F only. S and P/V are undocumented; Y and X are a register's, those of the indexed
address's high byte, or, for (HL), drawn. -/
def Obligations.BitTestsOneBitAndWritesOnlyF : Prop :=
  ∀ s : State,
    let tests (i : Instr) (length tStates : Nat) (b : BitVec 3) (v yx : Byte) (undoc drawn : List Flag) : Prop :=
      Completes i s fun t => t = { s.advance length 2 tStates with f := t.f, draws := t.draws } ∧
        FlagsFollow s t (bitTestFlags s b v yx) undoc drawn
    let high (x : Idx) (d : Byte) : Byte := highByte (s.indexedAddr x d)
    (∀ b r, tests (.bitBR b r) 2 8 b (s.reg8 r) (s.reg8 r) [.s, .pv, .y, .x] []) ∧
    (∀ b, tests (.bitBHlInd b) 2 12 b (s.memRead s.hl) 0 [.s, .pv] flagsYX) ∧
    (∀ x b d, tests (.bitBIxd x b d) 4 20 b (s.memRead (s.indexedAddr x d)) (high x d) [.s, .pv, .y, .x] []) ∧
    (s.cfg.undoc = .silicon → ∀ x b d z,
      tests (.bitBIxdZ x b d z) 4 20 b (s.memRead (s.indexedAddr x d)) (high x d) [.s, .pv, .y, .x] [])

/-- R424, R425, R426: SET and RES change one bit of a register or of memory, and no flag; the undocumented forms also copy the Byte
into a register. -/
def Obligations.SetAndResChangeOneBit : Prop :=
  ∀ s : State,
    let inRegister (i : Instr) (b : BitVec 3) (value : Bool) (r : Reg8) : Prop :=
      exec i s = .next ((s.advance 2 2 8).setReg8 r (withBit b value (s.reg8 r)))
    let inPlace (i : Instr) (length tStates : Nat) (b : BitVec 3) (value : Bool) (a : Word) : Prop :=
      Completes i s fun t => t = { s.advance length 2 tStates with mem := t.mem } ∧
        StoresByte s t a (withBit b value (s.memRead a))
    let copies (i : Instr) (b : BitVec 3) (value : Bool) (a : Word) (r : Reg8) : Prop :=
      Completes i s fun t =>
        t = { (s.advance 4 2 23).setReg8 r (withBit b value (s.memRead a)) with mem := t.mem } ∧
        StoresByte s t a (withBit b value (s.memRead a))
    (∀ b r, inRegister (.setBR b r) b true r) ∧ (∀ b r, inRegister (.resBR b r) b false r) ∧
    (∀ b, inPlace (.setBHlInd b) 2 15 b true s.hl) ∧ (∀ b, inPlace (.resBHlInd b) 2 15 b false s.hl) ∧
    (∀ x b d, inPlace (.setBIxd x b d) 4 23 b true (s.indexedAddr x d)) ∧
    (∀ x b d, inPlace (.resBIxd x b d) 4 23 b false (s.indexedAddr x d)) ∧
    (s.cfg.undoc = .silicon → ∀ x b d r,
      copies (.setBIxdR x b d r) b true (s.indexedAddr x d) r ∧ copies (.resBIxdR x b d r) b false (s.indexedAddr x d) r)

/-! ### Jumps, calls, returns -/

/-- R146: does the condition hold of F? -/
def condHolds (s : State) : Cond → Prop
  | .nz => s.flag .z = false
  | .z => s.flag .z = true
  | .nc => s.flag .c = false
  | .c => s.flag .c = true
  | .po => s.flag .pv = false
  | .pe => s.flag .pv = true
  | .p => s.flag .s = false
  | .m => s.flag .s = true

/-- R440 to R446, R451: the jumps. A conditional form whose condition fails only advances, at its lower cost. -/
def Obligations.JumpsGoToTheirTargets : Prop :=
  ∀ s : State,
    (∀ nn, exec (.jpNn nn) s = .next { s.advance 3 1 10 with pc := nn }) ∧
    (∀ cc nn, (condHolds s cc → exec (.jpCcNn cc nn) s = .next { s.advance 3 1 10 with pc := nn }) ∧
      (¬condHolds s cc → exec (.jpCcNn cc nn) s = .next (s.advance 3 1 10))) ∧
    (∀ e, exec (.jr e) s = .next { s.advance 2 1 12 with pc := s.jumpTarget 2 e }) ∧
    (∀ (cc : JrCond) (e : Byte),
      let holds := condHolds s (match cc with | .nz => .nz | .z => .z | .nc => .nc | .c => .c)
      (holds → exec (.jrCc cc e) s = .next { s.advance 2 1 12 with pc := s.jumpTarget 2 e }) ∧
      (¬holds → exec (.jrCc cc e) s = .next (s.advance 2 1 7))) ∧
    exec .jpHl s = .next { s.advance 1 1 4 with pc := s.hl } ∧
    (∀ x, exec (.jpIx x) s = .next { s.advance 2 2 8 with pc := s.idx x }) ∧
    (∀ e, (s.b ≠ 1 → exec (.djnz e) s = .next { s.advance 2 1 13 with b := s.b - 1, pc := s.jumpTarget 2 e }) ∧
      (s.b = 1 → exec (.djnz e) s = .next { s.advance 2 1 8 with b := 0 }))

/-- R447, R448, R458: CALL, CALL cc and RST push the address after the instruction and jump. -/
def Obligations.CallsPushTheReturnAddress : Prop :=
  ∀ s : State,
    let calls (i : Instr) (length tStates : Nat) (target : Word) : Prop :=
      Completes i s fun t =>
        t = { s.advance length 1 tStates with pc := target, sp := s.sp - 2, mem := t.mem } ∧
        StoresWord s t (s.sp - 2) (s.advance length 1 tStates).pc
    (∀ nn, calls (.callNn nn) 3 17 nn) ∧
    (∀ cc nn, (condHolds s cc → calls (.callCcNn cc nn) 3 17 nn) ∧
      (¬condHolds s cc → exec (.callCcNn cc nn) s = .next (s.advance 3 1 10))) ∧
    (∀ y : BitVec 3, calls (.rst y) 1 11 (BitVec.ofNat 16 (8 * y.toNat)))

/-- R449, R450, R456, R457, R459: the returns pop PC; RETN, its mirrors and RETI also copy IFF2 into IFF1. -/
def Obligations.ReturnsPopTheProgramCounter : Prop :=
  ∀ s : State,
    exec .ret s = .next { s.advance 1 1 10 with pc := s.wordAt s.sp, sp := s.sp + 2 } ∧
    (∀ cc, (condHolds s cc → exec (.retCc cc) s = .next { s.advance 1 1 11 with pc := s.wordAt s.sp, sp := s.sp + 2 }) ∧
      (¬condHolds s cc → exec (.retCc cc) s = .next (s.advance 1 1 5))) ∧
    exec .retn s = .next { s.advance 2 2 14 with pc := s.wordAt s.sp, sp := s.sp + 2, iff1 := s.iff2 } ∧
    exec .reti s = exec .retn s ∧
    (s.cfg.undoc = .silicon → ∀ y, exec (.retnMirror y) s = exec .retn s)

/-! ### Ports -/

/-- `t` has read the port `p` and nothing else of the inputs changed: one `in` event, dated at the start of the step (R470). -/
def readsPort (s t : State) (p : Word) : Prop :=
  t.ioLog = s.ioLog ++ [⟨.input, p, s.env.port.answer p s.ioLog, s.clock⟩] ∧ t.env = { s.env with port := s.env.port.next }

/-- R470 to R477: the single transfers: the port address, the byte, the event, and the flags of IN r,(C). -/
def Obligations.SinglePortTransfersLogOneEvent : Prop :=
  ∀ s : State,
    let byAN (n : Byte) : Word := BitVec.ofNat 16 (256 * s.a.toNat + n.toNat)
    let byC : Word := BitVec.ofNat 16 (256 * s.b.toNat + s.c.toNat)
    let answer (p : Word) : Byte := s.env.port.answer p s.ioLog
    let flags (v : Byte) := resultFlags v false (evenOnes v) false (s.flag .c)
    let outs (i : Instr) (m1 tStates : Nat) (p : Word) (v : Byte) : Prop :=
      exec i s = .next { s.advance 2 m1 tStates with ioLog := s.ioLog ++ [⟨.output, p, v, s.clock⟩] }
    (∀ n, Completes (.inAN n) s fun t =>
      t = { s.advance 2 1 11 with a := answer (byAN n), ioLog := t.ioLog, env := t.env } ∧ readsPort s t (byAN n)) ∧
    (∀ r, Completes (.inRC r) s fun t =>
      t = { (s.advance 2 2 12).setReg8 r (answer byC) with f := t.f, draws := t.draws, ioLog := t.ioLog, env := t.env } ∧
      readsPort s t byC ∧ FlagsFollow s t (flags (answer byC)) flagsYX []) ∧
    (∀ n, outs (.outNA n) 1 11 (byAN n) s.a) ∧ (∀ r, outs (.outCR r) 2 12 byC (s.reg8 r)) ∧
    (s.cfg.undoc = .silicon →
      Completes .inFC s (fun t =>
        t = { s.advance 2 2 12 with f := t.f, draws := t.draws, ioLog := t.ioLog, env := t.env } ∧
        readsPort s t byC ∧ FlagsFollow s t (flags (answer byC)) flagsYX []) ∧
      outs .outC0 2 12 byC s.cfg.outCZero)

/-- R478 to R486, R280: the block transfers between a port and memory; a repeating form repeats while B is not 0, with H, P/V, Y and X
drawn. Every flag but Z is undocumented. -/
def Obligations.BlockPortTransfersMoveOneByteAndRepeat : Prop :=
  ∀ s : State,
    let undoc : List Flag := [.s, .y, .h, .x, .pv, .n, .c]
    let base (t : State) (repeats : Bool) (move : Word) : Prop :=
      t = { s.advance (if repeats then 0 else 2) 2 (if repeats then 21 else 16) with
            b := s.b - 1, h := t.h, l := t.l, f := t.f, draws := t.draws, mem := t.mem, ioLog := t.ioLog, env := t.env } ∧
      t.hl = s.hl + move
    let drawn (repeats : Bool) : List Flag := if repeats then [.y, .h, .x, .pv] else []
    let ins (i : Instr) (repeats : Bool) (move : Word) (step8 : Byte) : Prop :=
      let v := s.env.port.answer s.bc s.ioLog
      Completes i s fun t => base t repeats move ∧ readsPort s t s.bc ∧ StoresByte s t s.hl v ∧
        FlagsFollow s t (blockIoFlags (s.b - 1) v (v.toNat + (s.c + step8).toNat)) undoc (drawn repeats)
    let outs (i : Instr) (repeats : Bool) (move : Word) : Prop :=
      let v := s.memRead s.hl
      Completes i s fun t => base t repeats move ∧ t.mem = s.mem ∧ t.env = s.env ∧
        t.ioLog = s.ioLog ++ [⟨.output, BitVec.ofNat 16 (256 * (s.b - 1).toNat + s.c.toNat), v, s.clock⟩] ∧
        FlagsFollow s t (blockIoFlags (s.b - 1) v (v.toNat + t.l.toNat)) undoc (drawn repeats)
    let again : Bool := s.b ≠ 1
    ins .ini false 1 1 ∧ ins .ind false (-1) (-1) ∧ ins .inir again 1 1 ∧ ins .indr again (-1) (-1) ∧
    outs .outi false 1 ∧ outs .outd false (-1) ∧ outs .otir again 1 ∧ outs .otdr again (-1)

/-! ### The debug controller -/

/-- R561: the breakpoints are a set: setting adds the address, clearing removes it, twice is as once, the canonical form stays, and
nothing else changes; and no step mutates them. -/
def Obligations.BreakpointsAreASet : Prop :=
  ∀ (s : State) (a : Word), Dbg.Ok s.dbg →
    (∀ b, b ∈ (s.setBreakpoint a).dbg.bps ↔ b = a ∨ b ∈ s.dbg.bps) ∧
    (∀ b, b ∈ (s.clearBreakpoint a).dbg.bps ↔ b ≠ a ∧ b ∈ s.dbg.bps) ∧
    (s.setBreakpoint a).setBreakpoint a = s.setBreakpoint a ∧
    (s.clearBreakpoint a).clearBreakpoint a = s.clearBreakpoint a ∧
    (a ∉ s.dbg.bps → s.clearBreakpoint a = s) ∧
    a ∉ ((s.setBreakpoint a).setBreakpoint a |>.clearBreakpoint a).dbg.bps ∧
    Dbg.Ok (s.setBreakpoint a).dbg ∧ Dbg.Ok (s.clearBreakpoint a).dbg ∧
    s.setBreakpoint a = { s with dbg := { s.dbg with bps := (s.setBreakpoint a).dbg.bps } } ∧
    s.clearBreakpoint a = { s with dbg := { s.dbg with bps := (s.clearBreakpoint a).dbg.bps } } ∧
    ∀ t, step s = .next t → t.dbg.bps = s.dbg.bps

/-- The controller of `t` is that of `s` after a watchpoint evaluation with the values of `u`, at rest (R563, R567): what fired is
exactly the ids of the watchpoints whose predicate holds between snapshot and value, in id order, every snapshot is that
value, and the mode is Idle. -/
def reportsWatchpoints (s u t : State) : Prop :=
  (∀ w ∈ s.dbg.wps, w.id ∈ t.dbg.fired ↔ w.pred.holds w.snap (u.valueOf w.target) = true) ∧
  (∀ k ∈ t.dbg.fired, ∃ w ∈ s.dbg.wps, w.id = k) ∧ t.dbg.fired.Pairwise (· < ·) ∧
  t.dbg.wps = s.dbg.wps.map (fun w => { w with snap := u.valueOf w.target }) ∧
  t.dbg.mode = .idle ∧ t.dbg.stopBp = none ∧ t.dbg.bps = s.dbg.bps ∧ t.dbg.nextId = s.dbg.nextId

/-- R562, R563, R567: `step()` reports exactly the watchpoints whose predicate holds between the snapshot and the value after the step,
in id order, every snapshot is then that value, and the mode is Idle. A step that sets a mark is evaluated too, with every
other value kept (R501, R502); that `step()` then returns the mark is the model's choice (DEDUCED, log entry 12), and so are that the inputs
then stay as they were (DESIGN CHOICE, log entry 12) and the value of a register still unset under UNSET_READ = fault (DESIGN
CHOICE, log entry 20). -/
def Obligations.StepCallReportsTheWatchpointsThatFire : Prop :=
  ∀ s : State, Dbg.Ok s.dbg → s.resetNow = false →
    (∀ (t : State) (fired : List Nat), s.debugStep = some (.stepped fired, t) →
      t.dbg.fired = fired ∧
      ∃ u, step (s.setMode .steppingOne) = .next u ∧ reportsWatchpoints s u t ∧ t = { u with dbg := t.dbg }) ∧
    (s.faulted = none → s.refused = none →
      (∀ r, step (s.setMode .steppingOne) = .fault (.invariant r) →
        ∃ t, s.debugStep = some (.fault r, t) ∧ reportsWatchpoints s s t ∧ t = { s with faulted := some r, dbg := t.dbg }) ∧
      (∀ r, step (s.setMode .steppingOne) = .refused r →
        ∃ t, s.debugStep = some (.refused r, t) ∧ reportsWatchpoints s s t ∧ t = { s with refused := some r, dbg := t.dbg }))

/-- R570, R612: `run()` returns at a breakpoint only at a boundary whose PC is that breakpoint, not halted, before the instruction there
has run; a `run()` not resumed from that breakpoint with PC on it stops at once and executes nothing. So does every later boundary
of the loop: it returns at a breakpoint that it does not resume from, and else goes on to the next boundary, where none is
resumed from, unless HOST_STOP, a mark or a watchpoint ends it. That it goes on at a boundary whose step is a warm reset, with no
watchpoint evaluated there, is the model's choice, which R570 and R601 do not state (DEDUCED, log entry 9). -/
def Obligations.RunStopsBeforeTheBreakpoint : Prop :=
  (∀ (s t : State) (stop : Nat → Bool) (fuel : Nat) (a : Word), s.debugRun stop fuel = .returned (.atBreakpoint a) t →
    t.pc = a ∧ a ∈ s.dbg.bps ∧ t.halted = false ∧ t.dbg.mode = .stoppedAtBreakpoint ∧ t.dbg.stopBp = some a) ∧
  (∀ (s : State) (stop : Nat → Bool) (fuel : Nat), s.faulted = none → s.refused = none → stop 0 = false → s.halted = false →
    s.pc ∈ s.dbg.bps → ¬(s.dbg.mode = .stoppedAtBreakpoint ∧ s.dbg.stopBp = some s.pc) →
    s.debugRun stop (fuel + 1) = .returned (.atBreakpoint s.pc)
      { s with dbg := { s.dbg with mode := .stoppedAtBreakpoint, stopBp := some s.pc } }) ∧
  (∀ (s : State) (stop : Nat → Bool) (fuel k : Nat) (resume : Option Word), stop k = false →
    (s.halted = false → s.pc ∈ s.dbg.bps → resume ≠ some s.pc →
      runLoop stop (fuel + 1) k resume s = .returned (.atBreakpoint s.pc)
        { s with dbg := { s.dbg with mode := .stoppedAtBreakpoint, stopBp := some s.pc } }) ∧
    (s.halted = true ∨ s.pc ∉ s.dbg.bps ∨ resume = some s.pc → ∀ t, step s = .next t → t.faulted = none → t.refused = none →
      (s.evalAfter t).dbg.fired = [] → runLoop stop (fuel + 1) k resume s = runLoop stop fuel (k + 1) none (s.evalAfter t)))
end

