-- ==== Sys2Proof/Laws/Asm.lean ====
section
/-!
SUPPORT. Sys2Proof/Laws/Asm.lean: what the parts of the assembler can answer, said once: splitting a text, the readings of an
operand, and the forms of a mnemonic with its operands.
-/

namespace Sys2Proof.Machine

/-- A text without the separator is one part. -/
theorem splitAt_of_not_mem {c : Char} {t : List Char} (h : c ∉ t) : splitAt c t = [t] := by
  induction t with
  | nil => rfl
  | cons x xs ih =>
    simp only [List.mem_cons, not_or] at h
    simp [splitAt, Ne.symm h.1, ih h.2]

/-- The part before the first separator is split off. -/
theorem splitAt_append {c : Char} {t : List Char} (h : c ∉ t) (u : List Char) :
    splitAt c (t ++ c :: u) = t :: splitAt c u := by
  induction t with
  | nil => simp [splitAt]
  | cons x xs ih =>
    simp only [List.mem_cons, not_or] at h
    simp [splitAt, Ne.symm h.1, ih h.2]

/-- A reading of a text is an operand that the text spells (R158, R159). -/
theorem mem_readings {o : Operand} {t : List Char} :
    o ∈ readings t ↔ o ∈ fixedOperands ++ numericOperands t ∧ String.ofList t ∈ operandTexts o := by
  rw [readings, List.mem_filter, List.contains_iff_mem]

/-- A form found by its mnemonic and operands is well formed and has them (R158, R159). -/
theorem mem_formsNamed {i : Instr} {name : String} {ops : List Operand} :
    i ∈ formsNamed name ops ↔
      i ∈ formsWith (zilogOperands name ops) ∧ i.wf = true ∧ instrName i = zilogName name ∧
        instrOperands i = zilogOperands name ops := by
  simp [formsNamed, and_assoc]

theorem mem_halfLoads (x : Idx) (y z : XReg8) : Instr.ldHalves x y z ∈ halfLoads x := by
  have all (k : XReg8) : k ∈ xregs := by cases k <;> decide
  exact List.mem_flatMap.mpr ⟨y, all y, List.mem_map.mpr ⟨z, all z, rfl⟩⟩

/-- Every well-formed instruction is among the forms that may have its operands. -/
theorem mem_formsWith {i : Instr} (h : i.wf = true) : i ∈ formsWith (instrOperands i) := by
  cases i
  case ldHalves x y z =>
    cases y <;> cases z <;> first | (cases h; done) | exact List.mem_append_right _ (mem_halfLoads _ _ _)
  case addIxPp x pp => cases pp <;> repeat first | exact List.Mem.head _ | refine List.Mem.tail _ ?_
  case jrCc cc e => cases cc <;> repeat first | exact List.Mem.head _ | refine List.Mem.tail _ ?_
  case bitBIxdZ x b d z => cases z <;> repeat first | exact List.Mem.head _ | refine List.Mem.tail _ ?_
  case negMirror y | retnMirror y | imMirror y => revert y; decide
  all_goals first
    | (cases h; done)
    | repeat first | exact List.Mem.head _ | refine List.Mem.tail _ ?_

/-! ### A form by its own name and operands (R159) -/

/-- No mnemonic of R158 is another spelling of R159. -/
theorem zilogName_instrName (i : Instr) : zilogName (instrName i) = instrName i := by
  cases i <;> rfl

/-- No instruction's own operands are another spelling of R159. -/
theorem zilogOperands_instrOperands (i : Instr) : zilogOperands (instrName i) (instrOperands i) = instrOperands i := by
  cases i <;> rfl

/-- A well-formed instruction is found by its own mnemonic and operands. -/
theorem mem_formsNamed_self {i : Instr} (h : i.wf = true) : i ∈ formsNamed (instrName i) (instrOperands i) := by
  simp [mem_formsNamed, zilogName_instrName, zilogOperands_instrOperands, mem_formsWith h, h]

/-! ### Numbers -/

theorem digitValue_hexDigit {n : Nat} (h : n < 16) : digitValue (hexDigit n) = some n := by
  have all : ∀ k : Fin 16, digitValue (hexDigit k) = some k.val := by decide
  exact all ⟨n, h⟩

theorem hexDigit_ne_x {n : Nat} (h : n < 16) : hexDigit n ≠ 'x' := by
  have all : ∀ k : Fin 16, hexDigit k ≠ 'x' := by decide
  exact all ⟨n, h⟩

/-- What the text of a Byte writes, also with more text before `0x` and a closing bracket after it. -/
theorem hexValue_hexByte (before : List Char) (b : Byte) :
    hexValue (before ++ (hexByte b).toList) = b.toNat ∧ hexValue (before ++ ((hexByte b).toList ++ [')'])) = b.toNat := by
  have := b.isLt
  have close : digitValue ')' = none := by decide
  simp [hexByte, hexValue, hexDigit_ne_x, digitValue_hexDigit, close, Nat.mod_lt, show b.toNat / 16 < 16 by omega]
  omega

theorem hexValue_hexWord (before : List Char) (w : Word) :
    hexValue (before ++ (hexWord w).toList) = w.toNat ∧ hexValue (before ++ ((hexWord w).toList ++ [')'])) = w.toNat := by
  have := w.isLt
  have close : digitValue ')' = none := by decide
  simp [hexWord, hexValue, hexDigit_ne_x, digitValue_hexDigit, close, Nat.mod_lt, show w.toNat / 4096 < 16 by omega]
  omega

theorem hexDigit_ne_minus {n : Nat} (h : n < 16) : '-' ≠ hexDigit n := by
  have all : ∀ k : Fin 16, '-' ≠ hexDigit k := by decide
  exact all ⟨n, h⟩

theorem decimalValue_decimal (sign : Char) (hs : digitValue sign = none) {n : Nat} (h : n < 1000) :
    decimalValue ('$' :: sign :: (decimal n).toList) = n := by
  have dollar : digitValue '$' = none := by decide
  unfold decimal
  split
  · simp [decimalValue, dollar, hs, digitValue_hexDigit (show n < 16 by omega)]
  · split
    · simp [decimalValue, dollar, hs, digitValue_hexDigit (show n / 10 < 16 by omega),
        digitValue_hexDigit (show n % 10 < 16 by omega)]
      omega
    · simp [decimalValue, dollar, hs, digitValue_hexDigit (show n / 100 < 16 by omega),
        digitValue_hexDigit (show n / 10 % 10 < 16 by omega), digitValue_hexDigit (show n % 10 < 16 by omega)]
      omega

theorem minus_not_mem_decimal {n : Nat} (h : n < 1000) : '-' ∉ (decimal n).toList := by
  unfold decimal
  split
  · simp [hexDigit_ne_minus (show n < 16 by omega)]
  · split <;> simp <;> refine ⟨?_, ?_⟩ <;> (try refine ⟨?_, ?_⟩) <;> exact hexDigit_ne_minus (by omega)

/-- A relative target is read back from its text (R158). -/
theorem rel_mem_numericOperands (e : Byte) : Operand.rel e ∈ numericOperands (operandText (.rel e)).toList := by
  have lower := BitVec.le_toInt e
  have upper := BitVec.toInt_lt (x := e)
  simp only [operandText, relText]
  split
  · rename_i h
    have : e = 0xFE := by rw [← BitVec.ofInt_toInt (x := e), show e.toInt = -2 by omega]; rfl
    subst this; decide
  · split
    · rename_i h
      have hv := decimalValue_decimal '-' (by decide) (n := (-(e.toInt + 2)).toNat) (by omega)
      simp_all [numericOperands]
      rw [show -max (-2 + -e.toInt) 0 - 2 = e.toInt by omega, BitVec.ofInt_toInt]
    · rename_i h
      have hv := decimalValue_decimal '+' (by decide) (n := (e.toInt + 2).toNat) (by omega)
      have hm := minus_not_mem_decimal (n := (e.toInt + 2).toNat) (by omega)
      simp_all [numericOperands]

/-- An indexed operand is read back from its text, whichever the sign of its displacement (R158). -/
theorem indexed_mem_numericOperands (x : Idx) (d : Byte) :
    Operand.indexed x d ∈ numericOperands (operandText (.indexed x d)).toList := by
  have := d.isLt
  cases hd : d.msb
  · have := fun c => (hexValue_hexByte ['(', 'I', c, '+'] d).2
    cases x <;> simp_all [numericOperands, operandText, signedHex, idxName, hexByte, hexDigit_ne_minus, Nat.mod_lt,
      show d.toNat / 16 < 16 by omega]
  · have := fun c => (hexValue_hexByte ['(', 'I', c, '-'] (-d)).2
    cases x <;> (simp_all [numericOperands, operandText, signedHex, idxName, hexByte]; bv_omega)

/-- An operand is a reading of its own text (R158); `(SP)` is the operand `indSp`. -/
theorem mem_readings_self {o : Operand} (sp : o ≠ .indPair .sp) (mode : ∀ n, o = .lit n → n ≤ 2) :
    o ∈ readings (operandText o).toList := by
  rw [mem_readings, String.ofList_toList]
  have own : operandText o ∈ operandTexts o := by unfold operandTexts; split <;> simp [operandText, halfName]
  refine ⟨?_, own⟩
  cases o
  case imm8 b | raw b =>
    have := (hexValue_hexByte [] b).1
    simp_all [numericOperands, operandText]
  case port b =>
    have := (hexValue_hexByte ['('] b).2
    simp_all [numericOperands, operandText]
  case imm16 w =>
    have := (hexValue_hexWord [] w).1
    simp_all [numericOperands, operandText]
  case direct w =>
    have := (hexValue_hexWord ['('] w).2
    simp_all [numericOperands, operandText]
  case restart t => clear sp mode own; revert t; decide
  case bit b => clear sp mode own; revert b; decide
  case rel e => exact List.mem_append_right _ (rel_mem_numericOperands e)
  case indexed x d => exact List.mem_append_right _ (indexed_mem_numericOperands x d)
  case lit n =>
    have := mode n rfl
    match n, this with
    | 0, _ | 1, _ | 2, _ => decide
  case reg r => cases r <;> decide
  case pair p => cases p <;> decide
  case pair2 p => cases p <;> decide
  case idx x => cases x <;> decide
  case half x p => cases x <;> cases p <;> decide
  case indPair p => cases p <;> first | decide | contradiction
  case indIdx x => cases x <;> decide
  case cond k => cases k <;> decide
  all_goals decide

end Sys2Proof.Machine
end

