-- ==== Sys2Proof/Laws/Bits.lean ====
section
/-!
SUPPORT. Sys2Proof/Laws/Bits.lean: the bit-field helpers in numbers: `hi`, `lo`, `join`, `sext8`, and the counting of R.
-/

namespace Sys2Proof

theorem join_toNat (h l : Byte) : (join h l).toNat = 256 * h.toNat + l.toNat := by
  unfold join
  rw [BitVec.toNat_append, ← Nat.shiftLeft_add_eq_or_of_lt l.isLt, Nat.shiftLeft_eq]; omega

theorem join_eq (h l : Byte) : join h l = BitVec.ofNat 16 (256 * h.toNat + l.toNat) := by
  apply BitVec.eq_of_toNat_eq
  have := h.isLt; have := l.isLt
  rw [join_toNat, BitVec.toNat_ofNat, Nat.mod_eq_of_lt]; omega

theorem hi_toNat (w : Word) : (hi w).toNat = w.toNat / 256 := by
  have := w.isLt
  simp [hi, Nat.shiftRight_eq_div_pow]; omega

theorem lo_toNat (w : Word) : (lo w).toNat = w.toNat % 256 := by simp [lo]

@[simp] theorem hi_join (h l : Byte) : hi (join h l) = h := by
  apply BitVec.eq_of_toNat_eq; rw [hi_toNat, join_toNat]; have := l.isLt; omega

@[simp] theorem lo_join (h l : Byte) : lo (join h l) = l := by
  apply BitVec.eq_of_toNat_eq; rw [lo_toNat, join_toNat]; have := l.isLt; omega

@[simp] theorem join_hi_lo (w : Word) : join (hi w) (lo w) = w := by
  apply BitVec.eq_of_toNat_eq; rw [join_toNat, hi_toNat, lo_toNat]; omega

theorem sext8_eq (b : Byte) : sext8 b = BitVec.ofInt 16 b.toInt := by
  unfold sext8; rw [BitVec.signExtend]

theorem add_sext8 (w : Word) (b : Byte) : w + sext8 b = BitVec.ofInt 16 (w.toNat + b.toInt) := by
  rw [sext8_eq, BitVec.ofInt_add]; simp

end Sys2Proof

namespace Sys2Proof.Machine

/-- R52 in numbers: R[6:0] counts modulo 128, R[7] is kept. -/
theorem incRefresh_eq (n : Nat) (r : Byte) :
    incRefresh n r = BitVec.ofNat 8 (r.toNat / 128 * 128 + (r.toNat + n) % 128) := by
  have h : ∀ r : Byte, (r &&& 0x80).toNat = r.toNat / 128 * 128 := by decide
  have := r.isLt
  apply BitVec.eq_of_toNat_eq
  unfold incRefresh
  have e : r.toNat / 128 * 128 = (r.toNat / 128) <<< 7 := by rw [Nat.shiftLeft_eq]
  rw [BitVec.toNat_or, h, BitVec.toNat_ofNat, BitVec.toNat_ofNat, e,
    Nat.mod_eq_of_lt (show (r.toNat + n) % 128 < 2 ^ 8 by omega),
    ← Nat.shiftLeft_add_eq_or_of_lt (show (r.toNat + n) % 128 < 2 ^ 7 by omega), Nat.shiftLeft_eq]
  omega

/-- R[7] is kept (R52). -/
@[simp] theorem incRefresh_bit7 (n : Nat) (r : Byte) : (incRefresh n r)[7] = r[7] := by
  have h : (BitVec.ofNat 8 ((r.toNat + n) % 128)).getLsbD 7 = false := by
    rw [BitVec.getLsbD_ofNat, Nat.testBit_lt_two_pow (by omega), Bool.and_false]
  rw [← BitVec.getLsbD_eq_getElem] at *
  simp only [incRefresh, BitVec.getLsbD_or, BitVec.getLsbD_and, h, Bool.or_false]
  simp

end Sys2Proof.Machine
end

