-- ==== Sys2Proof/Laws/Debug.lean ====
section
/-!
SUPPORT. Sys2Proof/Laws/Debug.lean: what the parts of `step()` and `run()` answer, said once: the boundary's step with the mark it
sets, the watchpoint evaluation, the controller at rest, and the mark returned.
-/

namespace Sys2Proof.Machine

variable {s t : State}

/-! ### The controller is read by no register, and by no step -/

@[simp] theorem State.valueOf_dbg (s : State) (d : Dbg) (x : Target) : { s with dbg := d }.valueOf x = s.valueOf x := by
  cases x <;> rfl

/-- A mark is no part of any value (R562). -/
@[simp] theorem State.valueOf_marks (s : State) (r : Option InvariantReason) (q : Option Refusal) (x : Target) :
    { s with faulted := r, refused := q }.valueOf x = s.valueOf x := by
  cases x <;> rfl

@[simp] theorem State.setMode_resetNow (s : State) (m : DbgMode) : (s.setMode m).resetNow = s.resetNow := rfl
@[simp] theorem State.setMode_valueOf (s : State) (m : DbgMode) (x : Target) : (s.setMode m).valueOf x = s.valueOf x :=
  s.valueOf_dbg _ x

/-! ### The mark returned (R563, R570) -/

theorem State.markReturn_eq_none : s.markReturn = none ↔ s.faulted = none ∧ s.refused = none := by
  unfold State.markReturn
  split <;> simp_all

theorem State.markReturn_of_faulted {r : InvariantReason} (h : s.faulted = some r) : s.markReturn = some (.fault r) := by
  simp [State.markReturn, h]

theorem State.markReturn_of_refused {r : Refusal} (hf : s.faulted = none) (h : s.refused = some r) :
    s.markReturn = some (.refused r) := by
  simp [State.markReturn, hf, h]

/-! ### The boundary's step (R501, R502, R503) -/

theorem State.debugBoundary_of_next (h : step s = .next t) : s.debugBoundary = some t := by
  simp [State.debugBoundary, show s.boundary = .next t from h, State.settle]

theorem State.debugBoundary_of_fault {r : InvariantReason} (h : step s = .fault (.invariant r)) :
    s.debugBoundary = some { s with faulted := some (s.faulted.getD r) } := by
  simp [State.debugBoundary, show s.boundary = .fault (.invariant r) from h, State.settle]

theorem State.debugBoundary_of_refused {r : Refusal} (h : step s = .refused r) :
    s.debugBoundary = some { s with refused := some (s.refused.getD r) } := by
  simp [State.debugBoundary, show s.boundary = .refused r from h, State.settle]

/-- It does not return exactly where the step is stuck (R503). -/
theorem State.debugBoundary_eq_none : s.debugBoundary = none ↔ step s = .fault .prefixHang := by
  unfold State.debugBoundary step
  split <;> simp_all

/-! ### Watchpoint evaluation (R567) -/

theorem State.evalAfter_of_engine (h : s.resetNow = false) : s.evalAfter t = t.evalWatchpoints := by
  simp [State.evalAfter, h]

/-- What fired is the ids of the watchpoints whose predicate holds between snapshot and value. -/
theorem State.mem_fired {k : Nat} :
    k ∈ s.evalWatchpoints.dbg.fired ↔ ∃ w ∈ s.dbg.wps, w.pred.holds w.snap (s.valueOf w.target) = true ∧ w.id = k := by
  simp [State.evalWatchpoints, and_assoc]

/-- In id order, if the watchpoints are. -/
theorem State.fired_pairwise (h : s.dbg.wps.Pairwise (fun v w => v.id < w.id)) :
    s.evalWatchpoints.dbg.fired.Pairwise (· < ·) :=
  List.pairwise_map.mpr (h.filter _)

/-! ### `step()` -/

/-- Everything `step()` of a state with no mark can do (R563): the boundary's step, the evaluation, the controller at rest, and the
mark returned if there is one, else what fired. -/
theorem State.debugStep_eq (hf : s.faulted = none) (hr : s.refused = none) :
    s.debugStep = (s.setMode .steppingOne).debugBoundary.map fun t =>
      ((s.evalAfter t).toIdle.markReturn.getD (.stepped (s.evalAfter t).dbg.fired), (s.evalAfter t).toIdle) := by
  unfold State.debugStep
  rw [State.markReturn_eq_none.mpr ⟨hf, hr⟩]
  cases (s.setMode .steppingOne).debugBoundary <;> rfl

end Sys2Proof.Machine
end

