-- ==== Sys2Proof/Laws/Decode.lean ====
section
/-!
SUPPORT. Sys2Proof/Laws/Decode.lean: what reading the index prefix bytes answers, said once: the bytes it has passed, and where it
stopped.
-/

namespace Sys2Proof

/-- An index prefix byte is the code of the register it selects (R151). -/
theorem Idx.ofByte_eq_some (b : Byte) (x : Idx) : Idx.ofByte b = some x ↔ b = x.code := by
  cases x <;> simp only [Idx.ofByte, Idx.code] <;> grind

@[simp] theorem Idx.ofByte_code (x : Idx) : Idx.ofByte x.code = some x := (Idx.ofByte_eq_some _ _).mpr rfl

theorem word_succ (p : Word) (k : Nat) : p + BitVec.ofNat 16 (k + 1) = p + 1 + BitVec.ofNat 16 k := by
  rw [Nat.add_comm, BitVec.ofNat_add, ← BitVec.add_assoc]; rfl

/-- The scan passes the index prefix bytes `xs`, fewer than `fuel`, and decodes at the first byte that is none (R155). -/
theorem decodeScan_eq_ok (rd : Word → Byte) (fuel : Nat) (p : Word) (ps : List Idx) (d : Decoded) :
    decodeScan rd fuel p ps = .ok d ↔
      ∃ xs : List Idx, xs.length < fuel ∧ (∀ k x, xs[k]? = some x → rd (p + BitVec.ofNat 16 k) = x.code) ∧
        Idx.ofByte (rd (p + BitVec.ofNat 16 xs.length)) = none ∧
        d = decodeAfter rd (p + BitVec.ofNat 16 xs.length) (xs.reverse ++ ps) := by
  induction fuel generalizing p ps with
  | zero => simp [decodeScan]
  | succ n ih =>
    rw [decodeScan]
    split
    · rename_i x hx
      rw [ih]
      constructor
      · rintro ⟨xs, h1, h2, h3, h4⟩
        refine ⟨x :: xs, by simpa using h1, fun k y hk => ?_, ?_, ?_⟩
        · cases k with
          | zero => simp at hk; subst hk; simpa using (Idx.ofByte_eq_some _ _).mp hx
          | succ k => rw [word_succ]; exact h2 k y (by simpa using hk)
        · rw [List.length_cons, word_succ]; exact h3
        · rw [List.length_cons, word_succ]; simpa using h4
      · rintro ⟨xs, h1, h2, h3, h4⟩
        cases xs with
        | nil => simp [hx] at h3
        | cons y xs =>
          have hy := h2 0 y rfl
          rw [← Idx.ofByte_eq_some] at hy
          simp [hx] at hy
          subst hy
          refine ⟨xs, by simpa using h1, fun k z hk => ?_, ?_, ?_⟩
          · rw [← word_succ]; exact h2 (k + 1) z (by simpa using hk)
          · rw [List.length_cons, word_succ] at h3; exact h3
          · rw [List.length_cons, word_succ] at h4; simpa using h4
    · rename_i hx
      constructor
      · intro h
        cases h
        exact ⟨[], by simp, by simp, by simpa using hx, by simp⟩
      · rintro ⟨xs, h1, h2, h3, h4⟩
        cases xs with
        | nil => simpa using h4.symm
        | cons y xs =>
          have hy := h2 0 y rfl
          rw [← Idx.ofByte_eq_some] at hy
          simp [hx] at hy

end Sys2Proof
end

