-- ==== Sys2Proof/Laws/State.lean ====
section
/-!
SUPPORT. Sys2Proof/Laws/State.lean: one lemma per field per named update of State, tagged simp, so that no proof unfolds a record
update.
-/

namespace Sys2Proof.Machine

variable (s : State)

/-! ### `setAF` -/

@[simp] theorem State.setAF_a (w : Word) : (s.setAF w).a = hi w := rfl
@[simp] theorem State.setAF_f (w : Word) : (s.setAF w).f = lo w := rfl
@[simp] theorem State.setAF_b (w : Word) : (s.setAF w).b = s.b := rfl
@[simp] theorem State.setAF_c (w : Word) : (s.setAF w).c = s.c := rfl
@[simp] theorem State.setAF_d (w : Word) : (s.setAF w).d = s.d := rfl
@[simp] theorem State.setAF_e (w : Word) : (s.setAF w).e = s.e := rfl
@[simp] theorem State.setAF_h (w : Word) : (s.setAF w).h = s.h := rfl
@[simp] theorem State.setAF_l (w : Word) : (s.setAF w).l = s.l := rfl
@[simp] theorem State.setAF_a' (w : Word) : (s.setAF w).a' = s.a' := rfl
@[simp] theorem State.setAF_f' (w : Word) : (s.setAF w).f' = s.f' := rfl
@[simp] theorem State.setAF_b' (w : Word) : (s.setAF w).b' = s.b' := rfl
@[simp] theorem State.setAF_c' (w : Word) : (s.setAF w).c' = s.c' := rfl
@[simp] theorem State.setAF_d' (w : Word) : (s.setAF w).d' = s.d' := rfl
@[simp] theorem State.setAF_e' (w : Word) : (s.setAF w).e' = s.e' := rfl
@[simp] theorem State.setAF_h' (w : Word) : (s.setAF w).h' = s.h' := rfl
@[simp] theorem State.setAF_l' (w : Word) : (s.setAF w).l' = s.l' := rfl
@[simp] theorem State.setAF_ix (w : Word) : (s.setAF w).ix = s.ix := rfl
@[simp] theorem State.setAF_iy (w : Word) : (s.setAF w).iy = s.iy := rfl
@[simp] theorem State.setAF_sp (w : Word) : (s.setAF w).sp = s.sp := rfl
@[simp] theorem State.setAF_pc (w : Word) : (s.setAF w).pc = s.pc := rfl
@[simp] theorem State.setAF_i (w : Word) : (s.setAF w).i = s.i := rfl
@[simp] theorem State.setAF_r (w : Word) : (s.setAF w).r = s.r := rfl
@[simp] theorem State.setAF_iff1 (w : Word) : (s.setAF w).iff1 = s.iff1 := rfl
@[simp] theorem State.setAF_iff2 (w : Word) : (s.setAF w).iff2 = s.iff2 := rfl
@[simp] theorem State.setAF_im (w : Word) : (s.setAF w).im = s.im := rfl
@[simp] theorem State.setAF_halted (w : Word) : (s.setAF w).halted = s.halted := rfl
@[simp] theorem State.setAF_eiShadow (w : Word) : (s.setAF w).eiShadow = s.eiShadow := rfl
@[simp] theorem State.setAF_nmiLatch (w : Word) : (s.setAF w).nmiLatch = s.nmiLatch := rfl
@[simp] theorem State.setAF_clock (w : Word) : (s.setAF w).clock = s.clock := rfl
@[simp] theorem State.setAF_mem (w : Word) : (s.setAF w).mem = s.mem := rfl
@[simp] theorem State.setAF_ioLog (w : Word) : (s.setAF w).ioLog = s.ioLog := rfl
@[simp] theorem State.setAF_dbg (w : Word) : (s.setAF w).dbg = s.dbg := rfl
@[simp] theorem State.setAF_faulted (w : Word) : (s.setAF w).faulted = s.faulted := rfl
@[simp] theorem State.setAF_refused (w : Word) : (s.setAF w).refused = s.refused := rfl
@[simp] theorem State.setAF_unset (w : Word) : (s.setAF w).unset = s.unset := rfl
@[simp] theorem State.setAF_cfg (w : Word) : (s.setAF w).cfg = s.cfg := rfl
@[simp] theorem State.setAF_env (w : Word) : (s.setAF w).env = s.env := rfl
@[simp] theorem State.setAF_draws (w : Word) : (s.setAF w).draws = s.draws := rfl

/-! ### `setBC` -/

@[simp] theorem State.setBC_a (w : Word) : (s.setBC w).a = s.a := rfl
@[simp] theorem State.setBC_f (w : Word) : (s.setBC w).f = s.f := rfl
@[simp] theorem State.setBC_b (w : Word) : (s.setBC w).b = hi w := rfl
@[simp] theorem State.setBC_c (w : Word) : (s.setBC w).c = lo w := rfl
@[simp] theorem State.setBC_d (w : Word) : (s.setBC w).d = s.d := rfl
@[simp] theorem State.setBC_e (w : Word) : (s.setBC w).e = s.e := rfl
@[simp] theorem State.setBC_h (w : Word) : (s.setBC w).h = s.h := rfl
@[simp] theorem State.setBC_l (w : Word) : (s.setBC w).l = s.l := rfl
@[simp] theorem State.setBC_a' (w : Word) : (s.setBC w).a' = s.a' := rfl
@[simp] theorem State.setBC_f' (w : Word) : (s.setBC w).f' = s.f' := rfl
@[simp] theorem State.setBC_b' (w : Word) : (s.setBC w).b' = s.b' := rfl
@[simp] theorem State.setBC_c' (w : Word) : (s.setBC w).c' = s.c' := rfl
@[simp] theorem State.setBC_d' (w : Word) : (s.setBC w).d' = s.d' := rfl
@[simp] theorem State.setBC_e' (w : Word) : (s.setBC w).e' = s.e' := rfl
@[simp] theorem State.setBC_h' (w : Word) : (s.setBC w).h' = s.h' := rfl
@[simp] theorem State.setBC_l' (w : Word) : (s.setBC w).l' = s.l' := rfl
@[simp] theorem State.setBC_ix (w : Word) : (s.setBC w).ix = s.ix := rfl
@[simp] theorem State.setBC_iy (w : Word) : (s.setBC w).iy = s.iy := rfl
@[simp] theorem State.setBC_sp (w : Word) : (s.setBC w).sp = s.sp := rfl
@[simp] theorem State.setBC_pc (w : Word) : (s.setBC w).pc = s.pc := rfl
@[simp] theorem State.setBC_i (w : Word) : (s.setBC w).i = s.i := rfl
@[simp] theorem State.setBC_r (w : Word) : (s.setBC w).r = s.r := rfl
@[simp] theorem State.setBC_iff1 (w : Word) : (s.setBC w).iff1 = s.iff1 := rfl
@[simp] theorem State.setBC_iff2 (w : Word) : (s.setBC w).iff2 = s.iff2 := rfl
@[simp] theorem State.setBC_im (w : Word) : (s.setBC w).im = s.im := rfl
@[simp] theorem State.setBC_halted (w : Word) : (s.setBC w).halted = s.halted := rfl
@[simp] theorem State.setBC_eiShadow (w : Word) : (s.setBC w).eiShadow = s.eiShadow := rfl
@[simp] theorem State.setBC_nmiLatch (w : Word) : (s.setBC w).nmiLatch = s.nmiLatch := rfl
@[simp] theorem State.setBC_clock (w : Word) : (s.setBC w).clock = s.clock := rfl
@[simp] theorem State.setBC_mem (w : Word) : (s.setBC w).mem = s.mem := rfl
@[simp] theorem State.setBC_ioLog (w : Word) : (s.setBC w).ioLog = s.ioLog := rfl
@[simp] theorem State.setBC_dbg (w : Word) : (s.setBC w).dbg = s.dbg := rfl
@[simp] theorem State.setBC_faulted (w : Word) : (s.setBC w).faulted = s.faulted := rfl
@[simp] theorem State.setBC_refused (w : Word) : (s.setBC w).refused = s.refused := rfl
@[simp] theorem State.setBC_unset (w : Word) : (s.setBC w).unset = s.unset := rfl
@[simp] theorem State.setBC_cfg (w : Word) : (s.setBC w).cfg = s.cfg := rfl
@[simp] theorem State.setBC_env (w : Word) : (s.setBC w).env = s.env := rfl
@[simp] theorem State.setBC_draws (w : Word) : (s.setBC w).draws = s.draws := rfl

/-! ### `setDE` -/

@[simp] theorem State.setDE_a (w : Word) : (s.setDE w).a = s.a := rfl
@[simp] theorem State.setDE_f (w : Word) : (s.setDE w).f = s.f := rfl
@[simp] theorem State.setDE_b (w : Word) : (s.setDE w).b = s.b := rfl
@[simp] theorem State.setDE_c (w : Word) : (s.setDE w).c = s.c := rfl
@[simp] theorem State.setDE_d (w : Word) : (s.setDE w).d = hi w := rfl
@[simp] theorem State.setDE_e (w : Word) : (s.setDE w).e = lo w := rfl
@[simp] theorem State.setDE_h (w : Word) : (s.setDE w).h = s.h := rfl
@[simp] theorem State.setDE_l (w : Word) : (s.setDE w).l = s.l := rfl
@[simp] theorem State.setDE_a' (w : Word) : (s.setDE w).a' = s.a' := rfl
@[simp] theorem State.setDE_f' (w : Word) : (s.setDE w).f' = s.f' := rfl
@[simp] theorem State.setDE_b' (w : Word) : (s.setDE w).b' = s.b' := rfl
@[simp] theorem State.setDE_c' (w : Word) : (s.setDE w).c' = s.c' := rfl
@[simp] theorem State.setDE_d' (w : Word) : (s.setDE w).d' = s.d' := rfl
@[simp] theorem State.setDE_e' (w : Word) : (s.setDE w).e' = s.e' := rfl
@[simp] theorem State.setDE_h' (w : Word) : (s.setDE w).h' = s.h' := rfl
@[simp] theorem State.setDE_l' (w : Word) : (s.setDE w).l' = s.l' := rfl
@[simp] theorem State.setDE_ix (w : Word) : (s.setDE w).ix = s.ix := rfl
@[simp] theorem State.setDE_iy (w : Word) : (s.setDE w).iy = s.iy := rfl
@[simp] theorem State.setDE_sp (w : Word) : (s.setDE w).sp = s.sp := rfl
@[simp] theorem State.setDE_pc (w : Word) : (s.setDE w).pc = s.pc := rfl
@[simp] theorem State.setDE_i (w : Word) : (s.setDE w).i = s.i := rfl
@[simp] theorem State.setDE_r (w : Word) : (s.setDE w).r = s.r := rfl
@[simp] theorem State.setDE_iff1 (w : Word) : (s.setDE w).iff1 = s.iff1 := rfl
@[simp] theorem State.setDE_iff2 (w : Word) : (s.setDE w).iff2 = s.iff2 := rfl
@[simp] theorem State.setDE_im (w : Word) : (s.setDE w).im = s.im := rfl
@[simp] theorem State.setDE_halted (w : Word) : (s.setDE w).halted = s.halted := rfl
@[simp] theorem State.setDE_eiShadow (w : Word) : (s.setDE w).eiShadow = s.eiShadow := rfl
@[simp] theorem State.setDE_nmiLatch (w : Word) : (s.setDE w).nmiLatch = s.nmiLatch := rfl
@[simp] theorem State.setDE_clock (w : Word) : (s.setDE w).clock = s.clock := rfl
@[simp] theorem State.setDE_mem (w : Word) : (s.setDE w).mem = s.mem := rfl
@[simp] theorem State.setDE_ioLog (w : Word) : (s.setDE w).ioLog = s.ioLog := rfl
@[simp] theorem State.setDE_dbg (w : Word) : (s.setDE w).dbg = s.dbg := rfl
@[simp] theorem State.setDE_faulted (w : Word) : (s.setDE w).faulted = s.faulted := rfl
@[simp] theorem State.setDE_refused (w : Word) : (s.setDE w).refused = s.refused := rfl
@[simp] theorem State.setDE_unset (w : Word) : (s.setDE w).unset = s.unset := rfl
@[simp] theorem State.setDE_cfg (w : Word) : (s.setDE w).cfg = s.cfg := rfl
@[simp] theorem State.setDE_env (w : Word) : (s.setDE w).env = s.env := rfl
@[simp] theorem State.setDE_draws (w : Word) : (s.setDE w).draws = s.draws := rfl

/-! ### `setHL` -/

@[simp] theorem State.setHL_a (w : Word) : (s.setHL w).a = s.a := rfl
@[simp] theorem State.setHL_f (w : Word) : (s.setHL w).f = s.f := rfl
@[simp] theorem State.setHL_b (w : Word) : (s.setHL w).b = s.b := rfl
@[simp] theorem State.setHL_c (w : Word) : (s.setHL w).c = s.c := rfl
@[simp] theorem State.setHL_d (w : Word) : (s.setHL w).d = s.d := rfl
@[simp] theorem State.setHL_e (w : Word) : (s.setHL w).e = s.e := rfl
@[simp] theorem State.setHL_h (w : Word) : (s.setHL w).h = hi w := rfl
@[simp] theorem State.setHL_l (w : Word) : (s.setHL w).l = lo w := rfl
@[simp] theorem State.setHL_a' (w : Word) : (s.setHL w).a' = s.a' := rfl
@[simp] theorem State.setHL_f' (w : Word) : (s.setHL w).f' = s.f' := rfl
@[simp] theorem State.setHL_b' (w : Word) : (s.setHL w).b' = s.b' := rfl
@[simp] theorem State.setHL_c' (w : Word) : (s.setHL w).c' = s.c' := rfl
@[simp] theorem State.setHL_d' (w : Word) : (s.setHL w).d' = s.d' := rfl
@[simp] theorem State.setHL_e' (w : Word) : (s.setHL w).e' = s.e' := rfl
@[simp] theorem State.setHL_h' (w : Word) : (s.setHL w).h' = s.h' := rfl
@[simp] theorem State.setHL_l' (w : Word) : (s.setHL w).l' = s.l' := rfl
@[simp] theorem State.setHL_ix (w : Word) : (s.setHL w).ix = s.ix := rfl
@[simp] theorem State.setHL_iy (w : Word) : (s.setHL w).iy = s.iy := rfl
@[simp] theorem State.setHL_sp (w : Word) : (s.setHL w).sp = s.sp := rfl
@[simp] theorem State.setHL_pc (w : Word) : (s.setHL w).pc = s.pc := rfl
@[simp] theorem State.setHL_i (w : Word) : (s.setHL w).i = s.i := rfl
@[simp] theorem State.setHL_r (w : Word) : (s.setHL w).r = s.r := rfl
@[simp] theorem State.setHL_iff1 (w : Word) : (s.setHL w).iff1 = s.iff1 := rfl
@[simp] theorem State.setHL_iff2 (w : Word) : (s.setHL w).iff2 = s.iff2 := rfl
@[simp] theorem State.setHL_im (w : Word) : (s.setHL w).im = s.im := rfl
@[simp] theorem State.setHL_halted (w : Word) : (s.setHL w).halted = s.halted := rfl
@[simp] theorem State.setHL_eiShadow (w : Word) : (s.setHL w).eiShadow = s.eiShadow := rfl
@[simp] theorem State.setHL_nmiLatch (w : Word) : (s.setHL w).nmiLatch = s.nmiLatch := rfl
@[simp] theorem State.setHL_clock (w : Word) : (s.setHL w).clock = s.clock := rfl
@[simp] theorem State.setHL_mem (w : Word) : (s.setHL w).mem = s.mem := rfl
@[simp] theorem State.setHL_ioLog (w : Word) : (s.setHL w).ioLog = s.ioLog := rfl
@[simp] theorem State.setHL_dbg (w : Word) : (s.setHL w).dbg = s.dbg := rfl
@[simp] theorem State.setHL_faulted (w : Word) : (s.setHL w).faulted = s.faulted := rfl
@[simp] theorem State.setHL_refused (w : Word) : (s.setHL w).refused = s.refused := rfl
@[simp] theorem State.setHL_unset (w : Word) : (s.setHL w).unset = s.unset := rfl
@[simp] theorem State.setHL_cfg (w : Word) : (s.setHL w).cfg = s.cfg := rfl
@[simp] theorem State.setHL_env (w : Word) : (s.setHL w).env = s.env := rfl
@[simp] theorem State.setHL_draws (w : Word) : (s.setHL w).draws = s.draws := rfl

/-! ### `setReg8` -/

@[simp] theorem State.setReg8_f (k : Reg8) (v : Byte) : (s.setReg8 k v).f = s.f := by cases k <;> rfl
@[simp] theorem State.setReg8_a' (k : Reg8) (v : Byte) : (s.setReg8 k v).a' = s.a' := by cases k <;> rfl
@[simp] theorem State.setReg8_f' (k : Reg8) (v : Byte) : (s.setReg8 k v).f' = s.f' := by cases k <;> rfl
@[simp] theorem State.setReg8_b' (k : Reg8) (v : Byte) : (s.setReg8 k v).b' = s.b' := by cases k <;> rfl
@[simp] theorem State.setReg8_c' (k : Reg8) (v : Byte) : (s.setReg8 k v).c' = s.c' := by cases k <;> rfl
@[simp] theorem State.setReg8_d' (k : Reg8) (v : Byte) : (s.setReg8 k v).d' = s.d' := by cases k <;> rfl
@[simp] theorem State.setReg8_e' (k : Reg8) (v : Byte) : (s.setReg8 k v).e' = s.e' := by cases k <;> rfl
@[simp] theorem State.setReg8_h' (k : Reg8) (v : Byte) : (s.setReg8 k v).h' = s.h' := by cases k <;> rfl
@[simp] theorem State.setReg8_l' (k : Reg8) (v : Byte) : (s.setReg8 k v).l' = s.l' := by cases k <;> rfl
@[simp] theorem State.setReg8_ix (k : Reg8) (v : Byte) : (s.setReg8 k v).ix = s.ix := by cases k <;> rfl
@[simp] theorem State.setReg8_iy (k : Reg8) (v : Byte) : (s.setReg8 k v).iy = s.iy := by cases k <;> rfl
@[simp] theorem State.setReg8_sp (k : Reg8) (v : Byte) : (s.setReg8 k v).sp = s.sp := by cases k <;> rfl
@[simp] theorem State.setReg8_pc (k : Reg8) (v : Byte) : (s.setReg8 k v).pc = s.pc := by cases k <;> rfl
@[simp] theorem State.setReg8_i (k : Reg8) (v : Byte) : (s.setReg8 k v).i = s.i := by cases k <;> rfl
@[simp] theorem State.setReg8_r (k : Reg8) (v : Byte) : (s.setReg8 k v).r = s.r := by cases k <;> rfl
@[simp] theorem State.setReg8_iff1 (k : Reg8) (v : Byte) : (s.setReg8 k v).iff1 = s.iff1 := by cases k <;> rfl
@[simp] theorem State.setReg8_iff2 (k : Reg8) (v : Byte) : (s.setReg8 k v).iff2 = s.iff2 := by cases k <;> rfl
@[simp] theorem State.setReg8_im (k : Reg8) (v : Byte) : (s.setReg8 k v).im = s.im := by cases k <;> rfl
@[simp] theorem State.setReg8_halted (k : Reg8) (v : Byte) : (s.setReg8 k v).halted = s.halted := by cases k <;> rfl
@[simp] theorem State.setReg8_eiShadow (k : Reg8) (v : Byte) : (s.setReg8 k v).eiShadow = s.eiShadow := by cases k <;> rfl
@[simp] theorem State.setReg8_nmiLatch (k : Reg8) (v : Byte) : (s.setReg8 k v).nmiLatch = s.nmiLatch := by cases k <;> rfl
@[simp] theorem State.setReg8_clock (k : Reg8) (v : Byte) : (s.setReg8 k v).clock = s.clock := by cases k <;> rfl
@[simp] theorem State.setReg8_mem (k : Reg8) (v : Byte) : (s.setReg8 k v).mem = s.mem := by cases k <;> rfl
@[simp] theorem State.setReg8_ioLog (k : Reg8) (v : Byte) : (s.setReg8 k v).ioLog = s.ioLog := by cases k <;> rfl
@[simp] theorem State.setReg8_dbg (k : Reg8) (v : Byte) : (s.setReg8 k v).dbg = s.dbg := by cases k <;> rfl
@[simp] theorem State.setReg8_faulted (k : Reg8) (v : Byte) : (s.setReg8 k v).faulted = s.faulted := by cases k <;> rfl
@[simp] theorem State.setReg8_refused (k : Reg8) (v : Byte) : (s.setReg8 k v).refused = s.refused := by cases k <;> rfl
@[simp] theorem State.setReg8_unset (k : Reg8) (v : Byte) : (s.setReg8 k v).unset = s.unset := by cases k <;> rfl
@[simp] theorem State.setReg8_cfg (k : Reg8) (v : Byte) : (s.setReg8 k v).cfg = s.cfg := by cases k <;> rfl
@[simp] theorem State.setReg8_env (k : Reg8) (v : Byte) : (s.setReg8 k v).env = s.env := by cases k <;> rfl
@[simp] theorem State.setReg8_draws (k : Reg8) (v : Byte) : (s.setReg8 k v).draws = s.draws := by cases k <;> rfl

/-! ### `setIdx` -/

@[simp] theorem State.setIdx_a (x : Idx) (w : Word) : (s.setIdx x w).a = s.a := by cases x <;> rfl
@[simp] theorem State.setIdx_f (x : Idx) (w : Word) : (s.setIdx x w).f = s.f := by cases x <;> rfl
@[simp] theorem State.setIdx_b (x : Idx) (w : Word) : (s.setIdx x w).b = s.b := by cases x <;> rfl
@[simp] theorem State.setIdx_c (x : Idx) (w : Word) : (s.setIdx x w).c = s.c := by cases x <;> rfl
@[simp] theorem State.setIdx_d (x : Idx) (w : Word) : (s.setIdx x w).d = s.d := by cases x <;> rfl
@[simp] theorem State.setIdx_e (x : Idx) (w : Word) : (s.setIdx x w).e = s.e := by cases x <;> rfl
@[simp] theorem State.setIdx_h (x : Idx) (w : Word) : (s.setIdx x w).h = s.h := by cases x <;> rfl
@[simp] theorem State.setIdx_l (x : Idx) (w : Word) : (s.setIdx x w).l = s.l := by cases x <;> rfl
@[simp] theorem State.setIdx_a' (x : Idx) (w : Word) : (s.setIdx x w).a' = s.a' := by cases x <;> rfl
@[simp] theorem State.setIdx_f' (x : Idx) (w : Word) : (s.setIdx x w).f' = s.f' := by cases x <;> rfl
@[simp] theorem State.setIdx_b' (x : Idx) (w : Word) : (s.setIdx x w).b' = s.b' := by cases x <;> rfl
@[simp] theorem State.setIdx_c' (x : Idx) (w : Word) : (s.setIdx x w).c' = s.c' := by cases x <;> rfl
@[simp] theorem State.setIdx_d' (x : Idx) (w : Word) : (s.setIdx x w).d' = s.d' := by cases x <;> rfl
@[simp] theorem State.setIdx_e' (x : Idx) (w : Word) : (s.setIdx x w).e' = s.e' := by cases x <;> rfl
@[simp] theorem State.setIdx_h' (x : Idx) (w : Word) : (s.setIdx x w).h' = s.h' := by cases x <;> rfl
@[simp] theorem State.setIdx_l' (x : Idx) (w : Word) : (s.setIdx x w).l' = s.l' := by cases x <;> rfl
@[simp] theorem State.setIdx_sp (x : Idx) (w : Word) : (s.setIdx x w).sp = s.sp := by cases x <;> rfl
@[simp] theorem State.setIdx_pc (x : Idx) (w : Word) : (s.setIdx x w).pc = s.pc := by cases x <;> rfl
@[simp] theorem State.setIdx_i (x : Idx) (w : Word) : (s.setIdx x w).i = s.i := by cases x <;> rfl
@[simp] theorem State.setIdx_r (x : Idx) (w : Word) : (s.setIdx x w).r = s.r := by cases x <;> rfl
@[simp] theorem State.setIdx_iff1 (x : Idx) (w : Word) : (s.setIdx x w).iff1 = s.iff1 := by cases x <;> rfl
@[simp] theorem State.setIdx_iff2 (x : Idx) (w : Word) : (s.setIdx x w).iff2 = s.iff2 := by cases x <;> rfl
@[simp] theorem State.setIdx_im (x : Idx) (w : Word) : (s.setIdx x w).im = s.im := by cases x <;> rfl
@[simp] theorem State.setIdx_halted (x : Idx) (w : Word) : (s.setIdx x w).halted = s.halted := by cases x <;> rfl
@[simp] theorem State.setIdx_eiShadow (x : Idx) (w : Word) : (s.setIdx x w).eiShadow = s.eiShadow := by cases x <;> rfl
@[simp] theorem State.setIdx_nmiLatch (x : Idx) (w : Word) : (s.setIdx x w).nmiLatch = s.nmiLatch := by cases x <;> rfl
@[simp] theorem State.setIdx_clock (x : Idx) (w : Word) : (s.setIdx x w).clock = s.clock := by cases x <;> rfl
@[simp] theorem State.setIdx_mem (x : Idx) (w : Word) : (s.setIdx x w).mem = s.mem := by cases x <;> rfl
@[simp] theorem State.setIdx_ioLog (x : Idx) (w : Word) : (s.setIdx x w).ioLog = s.ioLog := by cases x <;> rfl
@[simp] theorem State.setIdx_dbg (x : Idx) (w : Word) : (s.setIdx x w).dbg = s.dbg := by cases x <;> rfl
@[simp] theorem State.setIdx_faulted (x : Idx) (w : Word) : (s.setIdx x w).faulted = s.faulted := by cases x <;> rfl
@[simp] theorem State.setIdx_refused (x : Idx) (w : Word) : (s.setIdx x w).refused = s.refused := by cases x <;> rfl
@[simp] theorem State.setIdx_unset (x : Idx) (w : Word) : (s.setIdx x w).unset = s.unset := by cases x <;> rfl
@[simp] theorem State.setIdx_cfg (x : Idx) (w : Word) : (s.setIdx x w).cfg = s.cfg := by cases x <;> rfl
@[simp] theorem State.setIdx_env (x : Idx) (w : Word) : (s.setIdx x w).env = s.env := by cases x <;> rfl
@[simp] theorem State.setIdx_draws (x : Idx) (w : Word) : (s.setIdx x w).draws = s.draws := by cases x <;> rfl

/-! ### `setHalf` -/

@[simp] theorem State.setHalf_a (x : Idx) (p : Half) (v : Byte) : (s.setHalf x p v).a = s.a := by cases x <;> cases p <;> rfl
@[simp] theorem State.setHalf_f (x : Idx) (p : Half) (v : Byte) : (s.setHalf x p v).f = s.f := by cases x <;> cases p <;> rfl
@[simp] theorem State.setHalf_b (x : Idx) (p : Half) (v : Byte) : (s.setHalf x p v).b = s.b := by cases x <;> cases p <;> rfl
@[simp] theorem State.setHalf_c (x : Idx) (p : Half) (v : Byte) : (s.setHalf x p v).c = s.c := by cases x <;> cases p <;> rfl
@[simp] theorem State.setHalf_d (x : Idx) (p : Half) (v : Byte) : (s.setHalf x p v).d = s.d := by cases x <;> cases p <;> rfl
@[simp] theorem State.setHalf_e (x : Idx) (p : Half) (v : Byte) : (s.setHalf x p v).e = s.e := by cases x <;> cases p <;> rfl
@[simp] theorem State.setHalf_h (x : Idx) (p : Half) (v : Byte) : (s.setHalf x p v).h = s.h := by cases x <;> cases p <;> rfl
@[simp] theorem State.setHalf_l (x : Idx) (p : Half) (v : Byte) : (s.setHalf x p v).l = s.l := by cases x <;> cases p <;> rfl
@[simp] theorem State.setHalf_a' (x : Idx) (p : Half) (v : Byte) : (s.setHalf x p v).a' = s.a' := by cases x <;> cases p <;> rfl
@[simp] theorem State.setHalf_f' (x : Idx) (p : Half) (v : Byte) : (s.setHalf x p v).f' = s.f' := by cases x <;> cases p <;> rfl
@[simp] theorem State.setHalf_b' (x : Idx) (p : Half) (v : Byte) : (s.setHalf x p v).b' = s.b' := by cases x <;> cases p <;> rfl
@[simp] theorem State.setHalf_c' (x : Idx) (p : Half) (v : Byte) : (s.setHalf x p v).c' = s.c' := by cases x <;> cases p <;> rfl
@[simp] theorem State.setHalf_d' (x : Idx) (p : Half) (v : Byte) : (s.setHalf x p v).d' = s.d' := by cases x <;> cases p <;> rfl
@[simp] theorem State.setHalf_e' (x : Idx) (p : Half) (v : Byte) : (s.setHalf x p v).e' = s.e' := by cases x <;> cases p <;> rfl
@[simp] theorem State.setHalf_h' (x : Idx) (p : Half) (v : Byte) : (s.setHalf x p v).h' = s.h' := by cases x <;> cases p <;> rfl
@[simp] theorem State.setHalf_l' (x : Idx) (p : Half) (v : Byte) : (s.setHalf x p v).l' = s.l' := by cases x <;> cases p <;> rfl
@[simp] theorem State.setHalf_sp (x : Idx) (p : Half) (v : Byte) : (s.setHalf x p v).sp = s.sp := by cases x <;> cases p <;> rfl
@[simp] theorem State.setHalf_pc (x : Idx) (p : Half) (v : Byte) : (s.setHalf x p v).pc = s.pc := by cases x <;> cases p <;> rfl
@[simp] theorem State.setHalf_i (x : Idx) (p : Half) (v : Byte) : (s.setHalf x p v).i = s.i := by cases x <;> cases p <;> rfl
@[simp] theorem State.setHalf_r (x : Idx) (p : Half) (v : Byte) : (s.setHalf x p v).r = s.r := by cases x <;> cases p <;> rfl
@[simp] theorem State.setHalf_iff1 (x : Idx) (p : Half) (v : Byte) : (s.setHalf x p v).iff1 = s.iff1 := by cases x <;> cases p <;> rfl
@[simp] theorem State.setHalf_iff2 (x : Idx) (p : Half) (v : Byte) : (s.setHalf x p v).iff2 = s.iff2 := by cases x <;> cases p <;> rfl
@[simp] theorem State.setHalf_im (x : Idx) (p : Half) (v : Byte) : (s.setHalf x p v).im = s.im := by cases x <;> cases p <;> rfl
@[simp] theorem State.setHalf_halted (x : Idx) (p : Half) (v : Byte) : (s.setHalf x p v).halted = s.halted := by cases x <;> cases p <;> rfl
@[simp] theorem State.setHalf_eiShadow (x : Idx) (p : Half) (v : Byte) : (s.setHalf x p v).eiShadow = s.eiShadow := by cases x <;> cases p <;> rfl
@[simp] theorem State.setHalf_nmiLatch (x : Idx) (p : Half) (v : Byte) : (s.setHalf x p v).nmiLatch = s.nmiLatch := by cases x <;> cases p <;> rfl
@[simp] theorem State.setHalf_clock (x : Idx) (p : Half) (v : Byte) : (s.setHalf x p v).clock = s.clock := by cases x <;> cases p <;> rfl
@[simp] theorem State.setHalf_mem (x : Idx) (p : Half) (v : Byte) : (s.setHalf x p v).mem = s.mem := by cases x <;> cases p <;> rfl
@[simp] theorem State.setHalf_ioLog (x : Idx) (p : Half) (v : Byte) : (s.setHalf x p v).ioLog = s.ioLog := by cases x <;> cases p <;> rfl
@[simp] theorem State.setHalf_dbg (x : Idx) (p : Half) (v : Byte) : (s.setHalf x p v).dbg = s.dbg := by cases x <;> cases p <;> rfl
@[simp] theorem State.setHalf_faulted (x : Idx) (p : Half) (v : Byte) : (s.setHalf x p v).faulted = s.faulted := by cases x <;> cases p <;> rfl
@[simp] theorem State.setHalf_refused (x : Idx) (p : Half) (v : Byte) : (s.setHalf x p v).refused = s.refused := by cases x <;> cases p <;> rfl
@[simp] theorem State.setHalf_unset (x : Idx) (p : Half) (v : Byte) : (s.setHalf x p v).unset = s.unset := by cases x <;> cases p <;> rfl
@[simp] theorem State.setHalf_cfg (x : Idx) (p : Half) (v : Byte) : (s.setHalf x p v).cfg = s.cfg := by cases x <;> cases p <;> rfl
@[simp] theorem State.setHalf_env (x : Idx) (p : Half) (v : Byte) : (s.setHalf x p v).env = s.env := by cases x <;> cases p <;> rfl
@[simp] theorem State.setHalf_draws (x : Idx) (p : Half) (v : Byte) : (s.setHalf x p v).draws = s.draws := by cases x <;> cases p <;> rfl

/-! ### `setXReg8` -/

@[simp] theorem State.setXReg8_f (x : Idx) (k : XReg8) (v : Byte) : (s.setXReg8 x k v).f = s.f := by cases k <;> simp [State.setXReg8]
@[simp] theorem State.setXReg8_a' (x : Idx) (k : XReg8) (v : Byte) : (s.setXReg8 x k v).a' = s.a' := by cases k <;> simp [State.setXReg8]
@[simp] theorem State.setXReg8_f' (x : Idx) (k : XReg8) (v : Byte) : (s.setXReg8 x k v).f' = s.f' := by cases k <;> simp [State.setXReg8]
@[simp] theorem State.setXReg8_b' (x : Idx) (k : XReg8) (v : Byte) : (s.setXReg8 x k v).b' = s.b' := by cases k <;> simp [State.setXReg8]
@[simp] theorem State.setXReg8_c' (x : Idx) (k : XReg8) (v : Byte) : (s.setXReg8 x k v).c' = s.c' := by cases k <;> simp [State.setXReg8]
@[simp] theorem State.setXReg8_d' (x : Idx) (k : XReg8) (v : Byte) : (s.setXReg8 x k v).d' = s.d' := by cases k <;> simp [State.setXReg8]
@[simp] theorem State.setXReg8_e' (x : Idx) (k : XReg8) (v : Byte) : (s.setXReg8 x k v).e' = s.e' := by cases k <;> simp [State.setXReg8]
@[simp] theorem State.setXReg8_h' (x : Idx) (k : XReg8) (v : Byte) : (s.setXReg8 x k v).h' = s.h' := by cases k <;> simp [State.setXReg8]
@[simp] theorem State.setXReg8_l' (x : Idx) (k : XReg8) (v : Byte) : (s.setXReg8 x k v).l' = s.l' := by cases k <;> simp [State.setXReg8]
@[simp] theorem State.setXReg8_sp (x : Idx) (k : XReg8) (v : Byte) : (s.setXReg8 x k v).sp = s.sp := by cases k <;> simp [State.setXReg8]
@[simp] theorem State.setXReg8_pc (x : Idx) (k : XReg8) (v : Byte) : (s.setXReg8 x k v).pc = s.pc := by cases k <;> simp [State.setXReg8]
@[simp] theorem State.setXReg8_i (x : Idx) (k : XReg8) (v : Byte) : (s.setXReg8 x k v).i = s.i := by cases k <;> simp [State.setXReg8]
@[simp] theorem State.setXReg8_r (x : Idx) (k : XReg8) (v : Byte) : (s.setXReg8 x k v).r = s.r := by cases k <;> simp [State.setXReg8]
@[simp] theorem State.setXReg8_iff1 (x : Idx) (k : XReg8) (v : Byte) : (s.setXReg8 x k v).iff1 = s.iff1 := by cases k <;> simp [State.setXReg8]
@[simp] theorem State.setXReg8_iff2 (x : Idx) (k : XReg8) (v : Byte) : (s.setXReg8 x k v).iff2 = s.iff2 := by cases k <;> simp [State.setXReg8]
@[simp] theorem State.setXReg8_im (x : Idx) (k : XReg8) (v : Byte) : (s.setXReg8 x k v).im = s.im := by cases k <;> simp [State.setXReg8]
@[simp] theorem State.setXReg8_halted (x : Idx) (k : XReg8) (v : Byte) : (s.setXReg8 x k v).halted = s.halted := by cases k <;> simp [State.setXReg8]
@[simp] theorem State.setXReg8_eiShadow (x : Idx) (k : XReg8) (v : Byte) : (s.setXReg8 x k v).eiShadow = s.eiShadow := by cases k <;> simp [State.setXReg8]
@[simp] theorem State.setXReg8_nmiLatch (x : Idx) (k : XReg8) (v : Byte) : (s.setXReg8 x k v).nmiLatch = s.nmiLatch := by cases k <;> simp [State.setXReg8]
@[simp] theorem State.setXReg8_clock (x : Idx) (k : XReg8) (v : Byte) : (s.setXReg8 x k v).clock = s.clock := by cases k <;> simp [State.setXReg8]
@[simp] theorem State.setXReg8_mem (x : Idx) (k : XReg8) (v : Byte) : (s.setXReg8 x k v).mem = s.mem := by cases k <;> simp [State.setXReg8]
@[simp] theorem State.setXReg8_ioLog (x : Idx) (k : XReg8) (v : Byte) : (s.setXReg8 x k v).ioLog = s.ioLog := by cases k <;> simp [State.setXReg8]
@[simp] theorem State.setXReg8_dbg (x : Idx) (k : XReg8) (v : Byte) : (s.setXReg8 x k v).dbg = s.dbg := by cases k <;> simp [State.setXReg8]
@[simp] theorem State.setXReg8_faulted (x : Idx) (k : XReg8) (v : Byte) : (s.setXReg8 x k v).faulted = s.faulted := by cases k <;> simp [State.setXReg8]
@[simp] theorem State.setXReg8_refused (x : Idx) (k : XReg8) (v : Byte) : (s.setXReg8 x k v).refused = s.refused := by cases k <;> simp [State.setXReg8]
@[simp] theorem State.setXReg8_unset (x : Idx) (k : XReg8) (v : Byte) : (s.setXReg8 x k v).unset = s.unset := by cases k <;> simp [State.setXReg8]
@[simp] theorem State.setXReg8_cfg (x : Idx) (k : XReg8) (v : Byte) : (s.setXReg8 x k v).cfg = s.cfg := by cases k <;> simp [State.setXReg8]
@[simp] theorem State.setXReg8_env (x : Idx) (k : XReg8) (v : Byte) : (s.setXReg8 x k v).env = s.env := by cases k <;> simp [State.setXReg8]
@[simp] theorem State.setXReg8_draws (x : Idx) (k : XReg8) (v : Byte) : (s.setXReg8 x k v).draws = s.draws := by cases k <;> simp [State.setXReg8]

/-! ### `setRP` -/

@[simp] theorem State.setRP_a (p : RP) (w : Word) : (s.setRP p w).a = s.a := by cases p <;> rfl
@[simp] theorem State.setRP_f (p : RP) (w : Word) : (s.setRP p w).f = s.f := by cases p <;> rfl
@[simp] theorem State.setRP_a' (p : RP) (w : Word) : (s.setRP p w).a' = s.a' := by cases p <;> rfl
@[simp] theorem State.setRP_f' (p : RP) (w : Word) : (s.setRP p w).f' = s.f' := by cases p <;> rfl
@[simp] theorem State.setRP_b' (p : RP) (w : Word) : (s.setRP p w).b' = s.b' := by cases p <;> rfl
@[simp] theorem State.setRP_c' (p : RP) (w : Word) : (s.setRP p w).c' = s.c' := by cases p <;> rfl
@[simp] theorem State.setRP_d' (p : RP) (w : Word) : (s.setRP p w).d' = s.d' := by cases p <;> rfl
@[simp] theorem State.setRP_e' (p : RP) (w : Word) : (s.setRP p w).e' = s.e' := by cases p <;> rfl
@[simp] theorem State.setRP_h' (p : RP) (w : Word) : (s.setRP p w).h' = s.h' := by cases p <;> rfl
@[simp] theorem State.setRP_l' (p : RP) (w : Word) : (s.setRP p w).l' = s.l' := by cases p <;> rfl
@[simp] theorem State.setRP_ix (p : RP) (w : Word) : (s.setRP p w).ix = s.ix := by cases p <;> rfl
@[simp] theorem State.setRP_iy (p : RP) (w : Word) : (s.setRP p w).iy = s.iy := by cases p <;> rfl
@[simp] theorem State.setRP_pc (p : RP) (w : Word) : (s.setRP p w).pc = s.pc := by cases p <;> rfl
@[simp] theorem State.setRP_i (p : RP) (w : Word) : (s.setRP p w).i = s.i := by cases p <;> rfl
@[simp] theorem State.setRP_r (p : RP) (w : Word) : (s.setRP p w).r = s.r := by cases p <;> rfl
@[simp] theorem State.setRP_iff1 (p : RP) (w : Word) : (s.setRP p w).iff1 = s.iff1 := by cases p <;> rfl
@[simp] theorem State.setRP_iff2 (p : RP) (w : Word) : (s.setRP p w).iff2 = s.iff2 := by cases p <;> rfl
@[simp] theorem State.setRP_im (p : RP) (w : Word) : (s.setRP p w).im = s.im := by cases p <;> rfl
@[simp] theorem State.setRP_halted (p : RP) (w : Word) : (s.setRP p w).halted = s.halted := by cases p <;> rfl
@[simp] theorem State.setRP_eiShadow (p : RP) (w : Word) : (s.setRP p w).eiShadow = s.eiShadow := by cases p <;> rfl
@[simp] theorem State.setRP_nmiLatch (p : RP) (w : Word) : (s.setRP p w).nmiLatch = s.nmiLatch := by cases p <;> rfl
@[simp] theorem State.setRP_clock (p : RP) (w : Word) : (s.setRP p w).clock = s.clock := by cases p <;> rfl
@[simp] theorem State.setRP_mem (p : RP) (w : Word) : (s.setRP p w).mem = s.mem := by cases p <;> rfl
@[simp] theorem State.setRP_ioLog (p : RP) (w : Word) : (s.setRP p w).ioLog = s.ioLog := by cases p <;> rfl
@[simp] theorem State.setRP_dbg (p : RP) (w : Word) : (s.setRP p w).dbg = s.dbg := by cases p <;> rfl
@[simp] theorem State.setRP_faulted (p : RP) (w : Word) : (s.setRP p w).faulted = s.faulted := by cases p <;> rfl
@[simp] theorem State.setRP_refused (p : RP) (w : Word) : (s.setRP p w).refused = s.refused := by cases p <;> rfl
@[simp] theorem State.setRP_unset (p : RP) (w : Word) : (s.setRP p w).unset = s.unset := by cases p <;> rfl
@[simp] theorem State.setRP_cfg (p : RP) (w : Word) : (s.setRP p w).cfg = s.cfg := by cases p <;> rfl
@[simp] theorem State.setRP_env (p : RP) (w : Word) : (s.setRP p w).env = s.env := by cases p <;> rfl
@[simp] theorem State.setRP_draws (p : RP) (w : Word) : (s.setRP p w).draws = s.draws := by cases p <;> rfl

/-! ### `setRP2` -/

@[simp] theorem State.setRP2_a' (p : RP2) (w : Word) : (s.setRP2 p w).a' = s.a' := by cases p <;> rfl
@[simp] theorem State.setRP2_f' (p : RP2) (w : Word) : (s.setRP2 p w).f' = s.f' := by cases p <;> rfl
@[simp] theorem State.setRP2_b' (p : RP2) (w : Word) : (s.setRP2 p w).b' = s.b' := by cases p <;> rfl
@[simp] theorem State.setRP2_c' (p : RP2) (w : Word) : (s.setRP2 p w).c' = s.c' := by cases p <;> rfl
@[simp] theorem State.setRP2_d' (p : RP2) (w : Word) : (s.setRP2 p w).d' = s.d' := by cases p <;> rfl
@[simp] theorem State.setRP2_e' (p : RP2) (w : Word) : (s.setRP2 p w).e' = s.e' := by cases p <;> rfl
@[simp] theorem State.setRP2_h' (p : RP2) (w : Word) : (s.setRP2 p w).h' = s.h' := by cases p <;> rfl
@[simp] theorem State.setRP2_l' (p : RP2) (w : Word) : (s.setRP2 p w).l' = s.l' := by cases p <;> rfl
@[simp] theorem State.setRP2_ix (p : RP2) (w : Word) : (s.setRP2 p w).ix = s.ix := by cases p <;> rfl
@[simp] theorem State.setRP2_iy (p : RP2) (w : Word) : (s.setRP2 p w).iy = s.iy := by cases p <;> rfl
@[simp] theorem State.setRP2_sp (p : RP2) (w : Word) : (s.setRP2 p w).sp = s.sp := by cases p <;> rfl
@[simp] theorem State.setRP2_pc (p : RP2) (w : Word) : (s.setRP2 p w).pc = s.pc := by cases p <;> rfl
@[simp] theorem State.setRP2_i (p : RP2) (w : Word) : (s.setRP2 p w).i = s.i := by cases p <;> rfl
@[simp] theorem State.setRP2_r (p : RP2) (w : Word) : (s.setRP2 p w).r = s.r := by cases p <;> rfl
@[simp] theorem State.setRP2_iff1 (p : RP2) (w : Word) : (s.setRP2 p w).iff1 = s.iff1 := by cases p <;> rfl
@[simp] theorem State.setRP2_iff2 (p : RP2) (w : Word) : (s.setRP2 p w).iff2 = s.iff2 := by cases p <;> rfl
@[simp] theorem State.setRP2_im (p : RP2) (w : Word) : (s.setRP2 p w).im = s.im := by cases p <;> rfl
@[simp] theorem State.setRP2_halted (p : RP2) (w : Word) : (s.setRP2 p w).halted = s.halted := by cases p <;> rfl
@[simp] theorem State.setRP2_eiShadow (p : RP2) (w : Word) : (s.setRP2 p w).eiShadow = s.eiShadow := by cases p <;> rfl
@[simp] theorem State.setRP2_nmiLatch (p : RP2) (w : Word) : (s.setRP2 p w).nmiLatch = s.nmiLatch := by cases p <;> rfl
@[simp] theorem State.setRP2_clock (p : RP2) (w : Word) : (s.setRP2 p w).clock = s.clock := by cases p <;> rfl
@[simp] theorem State.setRP2_mem (p : RP2) (w : Word) : (s.setRP2 p w).mem = s.mem := by cases p <;> rfl
@[simp] theorem State.setRP2_ioLog (p : RP2) (w : Word) : (s.setRP2 p w).ioLog = s.ioLog := by cases p <;> rfl
@[simp] theorem State.setRP2_dbg (p : RP2) (w : Word) : (s.setRP2 p w).dbg = s.dbg := by cases p <;> rfl
@[simp] theorem State.setRP2_faulted (p : RP2) (w : Word) : (s.setRP2 p w).faulted = s.faulted := by cases p <;> rfl
@[simp] theorem State.setRP2_refused (p : RP2) (w : Word) : (s.setRP2 p w).refused = s.refused := by cases p <;> rfl
@[simp] theorem State.setRP2_unset (p : RP2) (w : Word) : (s.setRP2 p w).unset = s.unset := by cases p <;> rfl
@[simp] theorem State.setRP2_cfg (p : RP2) (w : Word) : (s.setRP2 p w).cfg = s.cfg := by cases p <;> rfl
@[simp] theorem State.setRP2_env (p : RP2) (w : Word) : (s.setRP2 p w).env = s.env := by cases p <;> rfl
@[simp] theorem State.setRP2_draws (p : RP2) (w : Word) : (s.setRP2 p w).draws = s.draws := by cases p <;> rfl

/-! ### `memWrite` -/

@[simp] theorem State.memWrite_a (p : Word) (v : Byte) : (s.memWrite p v).a = s.a := by unfold State.memWrite; split <;> rfl
@[simp] theorem State.memWrite_f (p : Word) (v : Byte) : (s.memWrite p v).f = s.f := by unfold State.memWrite; split <;> rfl
@[simp] theorem State.memWrite_b (p : Word) (v : Byte) : (s.memWrite p v).b = s.b := by unfold State.memWrite; split <;> rfl
@[simp] theorem State.memWrite_c (p : Word) (v : Byte) : (s.memWrite p v).c = s.c := by unfold State.memWrite; split <;> rfl
@[simp] theorem State.memWrite_d (p : Word) (v : Byte) : (s.memWrite p v).d = s.d := by unfold State.memWrite; split <;> rfl
@[simp] theorem State.memWrite_e (p : Word) (v : Byte) : (s.memWrite p v).e = s.e := by unfold State.memWrite; split <;> rfl
@[simp] theorem State.memWrite_h (p : Word) (v : Byte) : (s.memWrite p v).h = s.h := by unfold State.memWrite; split <;> rfl
@[simp] theorem State.memWrite_l (p : Word) (v : Byte) : (s.memWrite p v).l = s.l := by unfold State.memWrite; split <;> rfl
@[simp] theorem State.memWrite_a' (p : Word) (v : Byte) : (s.memWrite p v).a' = s.a' := by unfold State.memWrite; split <;> rfl
@[simp] theorem State.memWrite_f' (p : Word) (v : Byte) : (s.memWrite p v).f' = s.f' := by unfold State.memWrite; split <;> rfl
@[simp] theorem State.memWrite_b' (p : Word) (v : Byte) : (s.memWrite p v).b' = s.b' := by unfold State.memWrite; split <;> rfl
@[simp] theorem State.memWrite_c' (p : Word) (v : Byte) : (s.memWrite p v).c' = s.c' := by unfold State.memWrite; split <;> rfl
@[simp] theorem State.memWrite_d' (p : Word) (v : Byte) : (s.memWrite p v).d' = s.d' := by unfold State.memWrite; split <;> rfl
@[simp] theorem State.memWrite_e' (p : Word) (v : Byte) : (s.memWrite p v).e' = s.e' := by unfold State.memWrite; split <;> rfl
@[simp] theorem State.memWrite_h' (p : Word) (v : Byte) : (s.memWrite p v).h' = s.h' := by unfold State.memWrite; split <;> rfl
@[simp] theorem State.memWrite_l' (p : Word) (v : Byte) : (s.memWrite p v).l' = s.l' := by unfold State.memWrite; split <;> rfl
@[simp] theorem State.memWrite_ix (p : Word) (v : Byte) : (s.memWrite p v).ix = s.ix := by unfold State.memWrite; split <;> rfl
@[simp] theorem State.memWrite_iy (p : Word) (v : Byte) : (s.memWrite p v).iy = s.iy := by unfold State.memWrite; split <;> rfl
@[simp] theorem State.memWrite_sp (p : Word) (v : Byte) : (s.memWrite p v).sp = s.sp := by unfold State.memWrite; split <;> rfl
@[simp] theorem State.memWrite_pc (p : Word) (v : Byte) : (s.memWrite p v).pc = s.pc := by unfold State.memWrite; split <;> rfl
@[simp] theorem State.memWrite_i (p : Word) (v : Byte) : (s.memWrite p v).i = s.i := by unfold State.memWrite; split <;> rfl
@[simp] theorem State.memWrite_r (p : Word) (v : Byte) : (s.memWrite p v).r = s.r := by unfold State.memWrite; split <;> rfl
@[simp] theorem State.memWrite_iff1 (p : Word) (v : Byte) : (s.memWrite p v).iff1 = s.iff1 := by unfold State.memWrite; split <;> rfl
@[simp] theorem State.memWrite_iff2 (p : Word) (v : Byte) : (s.memWrite p v).iff2 = s.iff2 := by unfold State.memWrite; split <;> rfl
@[simp] theorem State.memWrite_im (p : Word) (v : Byte) : (s.memWrite p v).im = s.im := by unfold State.memWrite; split <;> rfl
@[simp] theorem State.memWrite_halted (p : Word) (v : Byte) : (s.memWrite p v).halted = s.halted := by unfold State.memWrite; split <;> rfl
@[simp] theorem State.memWrite_eiShadow (p : Word) (v : Byte) : (s.memWrite p v).eiShadow = s.eiShadow := by unfold State.memWrite; split <;> rfl
@[simp] theorem State.memWrite_nmiLatch (p : Word) (v : Byte) : (s.memWrite p v).nmiLatch = s.nmiLatch := by unfold State.memWrite; split <;> rfl
@[simp] theorem State.memWrite_clock (p : Word) (v : Byte) : (s.memWrite p v).clock = s.clock := by unfold State.memWrite; split <;> rfl
@[simp] theorem State.memWrite_mem (p : Word) (v : Byte) : (s.memWrite p v).mem = if s.inRom p then s.mem else Memory.write s.mem p v := by unfold State.memWrite; split <;> rfl
@[simp] theorem State.memWrite_ioLog (p : Word) (v : Byte) : (s.memWrite p v).ioLog = s.ioLog := by unfold State.memWrite; split <;> rfl
@[simp] theorem State.memWrite_dbg (p : Word) (v : Byte) : (s.memWrite p v).dbg = s.dbg := by unfold State.memWrite; split <;> rfl
@[simp] theorem State.memWrite_faulted (p : Word) (v : Byte) : (s.memWrite p v).faulted = s.faulted := by unfold State.memWrite; split <;> rfl
@[simp] theorem State.memWrite_refused (p : Word) (v : Byte) : (s.memWrite p v).refused = s.refused := by unfold State.memWrite; split <;> rfl
@[simp] theorem State.memWrite_unset (p : Word) (v : Byte) : (s.memWrite p v).unset = s.unset := by unfold State.memWrite; split <;> rfl
@[simp] theorem State.memWrite_cfg (p : Word) (v : Byte) : (s.memWrite p v).cfg = s.cfg := by unfold State.memWrite; split <;> rfl
@[simp] theorem State.memWrite_env (p : Word) (v : Byte) : (s.memWrite p v).env = s.env := by unfold State.memWrite; split <;> rfl
@[simp] theorem State.memWrite_draws (p : Word) (v : Byte) : (s.memWrite p v).draws = s.draws := by unfold State.memWrite; split <;> rfl

/-! ### `memWrite16` -/

@[simp] theorem State.memWrite16_a (p : Word) (w : Word) : (s.memWrite16 p w).a = s.a := by simp [State.memWrite16]
@[simp] theorem State.memWrite16_f (p : Word) (w : Word) : (s.memWrite16 p w).f = s.f := by simp [State.memWrite16]
@[simp] theorem State.memWrite16_b (p : Word) (w : Word) : (s.memWrite16 p w).b = s.b := by simp [State.memWrite16]
@[simp] theorem State.memWrite16_c (p : Word) (w : Word) : (s.memWrite16 p w).c = s.c := by simp [State.memWrite16]
@[simp] theorem State.memWrite16_d (p : Word) (w : Word) : (s.memWrite16 p w).d = s.d := by simp [State.memWrite16]
@[simp] theorem State.memWrite16_e (p : Word) (w : Word) : (s.memWrite16 p w).e = s.e := by simp [State.memWrite16]
@[simp] theorem State.memWrite16_h (p : Word) (w : Word) : (s.memWrite16 p w).h = s.h := by simp [State.memWrite16]
@[simp] theorem State.memWrite16_l (p : Word) (w : Word) : (s.memWrite16 p w).l = s.l := by simp [State.memWrite16]
@[simp] theorem State.memWrite16_a' (p : Word) (w : Word) : (s.memWrite16 p w).a' = s.a' := by simp [State.memWrite16]
@[simp] theorem State.memWrite16_f' (p : Word) (w : Word) : (s.memWrite16 p w).f' = s.f' := by simp [State.memWrite16]
@[simp] theorem State.memWrite16_b' (p : Word) (w : Word) : (s.memWrite16 p w).b' = s.b' := by simp [State.memWrite16]
@[simp] theorem State.memWrite16_c' (p : Word) (w : Word) : (s.memWrite16 p w).c' = s.c' := by simp [State.memWrite16]
@[simp] theorem State.memWrite16_d' (p : Word) (w : Word) : (s.memWrite16 p w).d' = s.d' := by simp [State.memWrite16]
@[simp] theorem State.memWrite16_e' (p : Word) (w : Word) : (s.memWrite16 p w).e' = s.e' := by simp [State.memWrite16]
@[simp] theorem State.memWrite16_h' (p : Word) (w : Word) : (s.memWrite16 p w).h' = s.h' := by simp [State.memWrite16]
@[simp] theorem State.memWrite16_l' (p : Word) (w : Word) : (s.memWrite16 p w).l' = s.l' := by simp [State.memWrite16]
@[simp] theorem State.memWrite16_ix (p : Word) (w : Word) : (s.memWrite16 p w).ix = s.ix := by simp [State.memWrite16]
@[simp] theorem State.memWrite16_iy (p : Word) (w : Word) : (s.memWrite16 p w).iy = s.iy := by simp [State.memWrite16]
@[simp] theorem State.memWrite16_sp (p : Word) (w : Word) : (s.memWrite16 p w).sp = s.sp := by simp [State.memWrite16]
@[simp] theorem State.memWrite16_pc (p : Word) (w : Word) : (s.memWrite16 p w).pc = s.pc := by simp [State.memWrite16]
@[simp] theorem State.memWrite16_i (p : Word) (w : Word) : (s.memWrite16 p w).i = s.i := by simp [State.memWrite16]
@[simp] theorem State.memWrite16_r (p : Word) (w : Word) : (s.memWrite16 p w).r = s.r := by simp [State.memWrite16]
@[simp] theorem State.memWrite16_iff1 (p : Word) (w : Word) : (s.memWrite16 p w).iff1 = s.iff1 := by simp [State.memWrite16]
@[simp] theorem State.memWrite16_iff2 (p : Word) (w : Word) : (s.memWrite16 p w).iff2 = s.iff2 := by simp [State.memWrite16]
@[simp] theorem State.memWrite16_im (p : Word) (w : Word) : (s.memWrite16 p w).im = s.im := by simp [State.memWrite16]
@[simp] theorem State.memWrite16_halted (p : Word) (w : Word) : (s.memWrite16 p w).halted = s.halted := by simp [State.memWrite16]
@[simp] theorem State.memWrite16_eiShadow (p : Word) (w : Word) : (s.memWrite16 p w).eiShadow = s.eiShadow := by simp [State.memWrite16]
@[simp] theorem State.memWrite16_nmiLatch (p : Word) (w : Word) : (s.memWrite16 p w).nmiLatch = s.nmiLatch := by simp [State.memWrite16]
@[simp] theorem State.memWrite16_clock (p : Word) (w : Word) : (s.memWrite16 p w).clock = s.clock := by simp [State.memWrite16]
@[simp] theorem State.memWrite16_ioLog (p : Word) (w : Word) : (s.memWrite16 p w).ioLog = s.ioLog := by simp [State.memWrite16]
@[simp] theorem State.memWrite16_dbg (p : Word) (w : Word) : (s.memWrite16 p w).dbg = s.dbg := by simp [State.memWrite16]
@[simp] theorem State.memWrite16_faulted (p : Word) (w : Word) : (s.memWrite16 p w).faulted = s.faulted := by simp [State.memWrite16]
@[simp] theorem State.memWrite16_refused (p : Word) (w : Word) : (s.memWrite16 p w).refused = s.refused := by simp [State.memWrite16]
@[simp] theorem State.memWrite16_unset (p : Word) (w : Word) : (s.memWrite16 p w).unset = s.unset := by simp [State.memWrite16]
@[simp] theorem State.memWrite16_cfg (p : Word) (w : Word) : (s.memWrite16 p w).cfg = s.cfg := by simp [State.memWrite16]
@[simp] theorem State.memWrite16_env (p : Word) (w : Word) : (s.memWrite16 p w).env = s.env := by simp [State.memWrite16]
@[simp] theorem State.memWrite16_draws (p : Word) (w : Word) : (s.memWrite16 p w).draws = s.draws := by simp [State.memWrite16]

/-! ### `push` -/

@[simp] theorem State.push_a (w : Word) : (s.push w).a = s.a := by simp [State.push]
@[simp] theorem State.push_f (w : Word) : (s.push w).f = s.f := by simp [State.push]
@[simp] theorem State.push_b (w : Word) : (s.push w).b = s.b := by simp [State.push]
@[simp] theorem State.push_c (w : Word) : (s.push w).c = s.c := by simp [State.push]
@[simp] theorem State.push_d (w : Word) : (s.push w).d = s.d := by simp [State.push]
@[simp] theorem State.push_e (w : Word) : (s.push w).e = s.e := by simp [State.push]
@[simp] theorem State.push_h (w : Word) : (s.push w).h = s.h := by simp [State.push]
@[simp] theorem State.push_l (w : Word) : (s.push w).l = s.l := by simp [State.push]
@[simp] theorem State.push_a' (w : Word) : (s.push w).a' = s.a' := by simp [State.push]
@[simp] theorem State.push_f' (w : Word) : (s.push w).f' = s.f' := by simp [State.push]
@[simp] theorem State.push_b' (w : Word) : (s.push w).b' = s.b' := by simp [State.push]
@[simp] theorem State.push_c' (w : Word) : (s.push w).c' = s.c' := by simp [State.push]
@[simp] theorem State.push_d' (w : Word) : (s.push w).d' = s.d' := by simp [State.push]
@[simp] theorem State.push_e' (w : Word) : (s.push w).e' = s.e' := by simp [State.push]
@[simp] theorem State.push_h' (w : Word) : (s.push w).h' = s.h' := by simp [State.push]
@[simp] theorem State.push_l' (w : Word) : (s.push w).l' = s.l' := by simp [State.push]
@[simp] theorem State.push_ix (w : Word) : (s.push w).ix = s.ix := by simp [State.push]
@[simp] theorem State.push_iy (w : Word) : (s.push w).iy = s.iy := by simp [State.push]
@[simp] theorem State.push_sp (w : Word) : (s.push w).sp = s.sp - 1 - 1 := by simp [State.push]
@[simp] theorem State.push_pc (w : Word) : (s.push w).pc = s.pc := by simp [State.push]
@[simp] theorem State.push_i (w : Word) : (s.push w).i = s.i := by simp [State.push]
@[simp] theorem State.push_r (w : Word) : (s.push w).r = s.r := by simp [State.push]
@[simp] theorem State.push_iff1 (w : Word) : (s.push w).iff1 = s.iff1 := by simp [State.push]
@[simp] theorem State.push_iff2 (w : Word) : (s.push w).iff2 = s.iff2 := by simp [State.push]
@[simp] theorem State.push_im (w : Word) : (s.push w).im = s.im := by simp [State.push]
@[simp] theorem State.push_halted (w : Word) : (s.push w).halted = s.halted := by simp [State.push]
@[simp] theorem State.push_eiShadow (w : Word) : (s.push w).eiShadow = s.eiShadow := by simp [State.push]
@[simp] theorem State.push_nmiLatch (w : Word) : (s.push w).nmiLatch = s.nmiLatch := by simp [State.push]
@[simp] theorem State.push_clock (w : Word) : (s.push w).clock = s.clock := by simp [State.push]
@[simp] theorem State.push_ioLog (w : Word) : (s.push w).ioLog = s.ioLog := by simp [State.push]
@[simp] theorem State.push_dbg (w : Word) : (s.push w).dbg = s.dbg := by simp [State.push]
@[simp] theorem State.push_faulted (w : Word) : (s.push w).faulted = s.faulted := by simp [State.push]
@[simp] theorem State.push_refused (w : Word) : (s.push w).refused = s.refused := by simp [State.push]
@[simp] theorem State.push_unset (w : Word) : (s.push w).unset = s.unset := by simp [State.push]
@[simp] theorem State.push_cfg (w : Word) : (s.push w).cfg = s.cfg := by simp [State.push]
@[simp] theorem State.push_env (w : Word) : (s.push w).env = s.env := by simp [State.push]
@[simp] theorem State.push_draws (w : Word) : (s.push w).draws = s.draws := by simp [State.push]

/-! ### `dropTop` -/

@[simp] theorem State.dropTop_a : (s.dropTop).a = s.a := rfl
@[simp] theorem State.dropTop_f : (s.dropTop).f = s.f := rfl
@[simp] theorem State.dropTop_b : (s.dropTop).b = s.b := rfl
@[simp] theorem State.dropTop_c : (s.dropTop).c = s.c := rfl
@[simp] theorem State.dropTop_d : (s.dropTop).d = s.d := rfl
@[simp] theorem State.dropTop_e : (s.dropTop).e = s.e := rfl
@[simp] theorem State.dropTop_h : (s.dropTop).h = s.h := rfl
@[simp] theorem State.dropTop_l : (s.dropTop).l = s.l := rfl
@[simp] theorem State.dropTop_a' : (s.dropTop).a' = s.a' := rfl
@[simp] theorem State.dropTop_f' : (s.dropTop).f' = s.f' := rfl
@[simp] theorem State.dropTop_b' : (s.dropTop).b' = s.b' := rfl
@[simp] theorem State.dropTop_c' : (s.dropTop).c' = s.c' := rfl
@[simp] theorem State.dropTop_d' : (s.dropTop).d' = s.d' := rfl
@[simp] theorem State.dropTop_e' : (s.dropTop).e' = s.e' := rfl
@[simp] theorem State.dropTop_h' : (s.dropTop).h' = s.h' := rfl
@[simp] theorem State.dropTop_l' : (s.dropTop).l' = s.l' := rfl
@[simp] theorem State.dropTop_ix : (s.dropTop).ix = s.ix := rfl
@[simp] theorem State.dropTop_iy : (s.dropTop).iy = s.iy := rfl
@[simp] theorem State.dropTop_sp : (s.dropTop).sp = s.sp + 2 := rfl
@[simp] theorem State.dropTop_pc : (s.dropTop).pc = s.pc := rfl
@[simp] theorem State.dropTop_i : (s.dropTop).i = s.i := rfl
@[simp] theorem State.dropTop_r : (s.dropTop).r = s.r := rfl
@[simp] theorem State.dropTop_iff1 : (s.dropTop).iff1 = s.iff1 := rfl
@[simp] theorem State.dropTop_iff2 : (s.dropTop).iff2 = s.iff2 := rfl
@[simp] theorem State.dropTop_im : (s.dropTop).im = s.im := rfl
@[simp] theorem State.dropTop_halted : (s.dropTop).halted = s.halted := rfl
@[simp] theorem State.dropTop_eiShadow : (s.dropTop).eiShadow = s.eiShadow := rfl
@[simp] theorem State.dropTop_nmiLatch : (s.dropTop).nmiLatch = s.nmiLatch := rfl
@[simp] theorem State.dropTop_clock : (s.dropTop).clock = s.clock := rfl
@[simp] theorem State.dropTop_mem : (s.dropTop).mem = s.mem := rfl
@[simp] theorem State.dropTop_ioLog : (s.dropTop).ioLog = s.ioLog := rfl
@[simp] theorem State.dropTop_dbg : (s.dropTop).dbg = s.dbg := rfl
@[simp] theorem State.dropTop_faulted : (s.dropTop).faulted = s.faulted := rfl
@[simp] theorem State.dropTop_refused : (s.dropTop).refused = s.refused := rfl
@[simp] theorem State.dropTop_unset : (s.dropTop).unset = s.unset := rfl
@[simp] theorem State.dropTop_cfg : (s.dropTop).cfg = s.cfg := rfl
@[simp] theorem State.dropTop_env : (s.dropTop).env = s.env := rfl
@[simp] theorem State.dropTop_draws : (s.dropTop).draws = s.draws := rfl

/-! ### `storeTop` -/

@[simp] theorem State.storeTop_a (w : Word) : (s.storeTop w).a = s.a := by simp [State.storeTop]
@[simp] theorem State.storeTop_f (w : Word) : (s.storeTop w).f = s.f := by simp [State.storeTop]
@[simp] theorem State.storeTop_b (w : Word) : (s.storeTop w).b = s.b := by simp [State.storeTop]
@[simp] theorem State.storeTop_c (w : Word) : (s.storeTop w).c = s.c := by simp [State.storeTop]
@[simp] theorem State.storeTop_d (w : Word) : (s.storeTop w).d = s.d := by simp [State.storeTop]
@[simp] theorem State.storeTop_e (w : Word) : (s.storeTop w).e = s.e := by simp [State.storeTop]
@[simp] theorem State.storeTop_h (w : Word) : (s.storeTop w).h = s.h := by simp [State.storeTop]
@[simp] theorem State.storeTop_l (w : Word) : (s.storeTop w).l = s.l := by simp [State.storeTop]
@[simp] theorem State.storeTop_a' (w : Word) : (s.storeTop w).a' = s.a' := by simp [State.storeTop]
@[simp] theorem State.storeTop_f' (w : Word) : (s.storeTop w).f' = s.f' := by simp [State.storeTop]
@[simp] theorem State.storeTop_b' (w : Word) : (s.storeTop w).b' = s.b' := by simp [State.storeTop]
@[simp] theorem State.storeTop_c' (w : Word) : (s.storeTop w).c' = s.c' := by simp [State.storeTop]
@[simp] theorem State.storeTop_d' (w : Word) : (s.storeTop w).d' = s.d' := by simp [State.storeTop]
@[simp] theorem State.storeTop_e' (w : Word) : (s.storeTop w).e' = s.e' := by simp [State.storeTop]
@[simp] theorem State.storeTop_h' (w : Word) : (s.storeTop w).h' = s.h' := by simp [State.storeTop]
@[simp] theorem State.storeTop_l' (w : Word) : (s.storeTop w).l' = s.l' := by simp [State.storeTop]
@[simp] theorem State.storeTop_ix (w : Word) : (s.storeTop w).ix = s.ix := by simp [State.storeTop]
@[simp] theorem State.storeTop_iy (w : Word) : (s.storeTop w).iy = s.iy := by simp [State.storeTop]
@[simp] theorem State.storeTop_sp (w : Word) : (s.storeTop w).sp = s.sp := by simp [State.storeTop]
@[simp] theorem State.storeTop_pc (w : Word) : (s.storeTop w).pc = s.pc := by simp [State.storeTop]
@[simp] theorem State.storeTop_i (w : Word) : (s.storeTop w).i = s.i := by simp [State.storeTop]
@[simp] theorem State.storeTop_r (w : Word) : (s.storeTop w).r = s.r := by simp [State.storeTop]
@[simp] theorem State.storeTop_iff1 (w : Word) : (s.storeTop w).iff1 = s.iff1 := by simp [State.storeTop]
@[simp] theorem State.storeTop_iff2 (w : Word) : (s.storeTop w).iff2 = s.iff2 := by simp [State.storeTop]
@[simp] theorem State.storeTop_im (w : Word) : (s.storeTop w).im = s.im := by simp [State.storeTop]
@[simp] theorem State.storeTop_halted (w : Word) : (s.storeTop w).halted = s.halted := by simp [State.storeTop]
@[simp] theorem State.storeTop_eiShadow (w : Word) : (s.storeTop w).eiShadow = s.eiShadow := by simp [State.storeTop]
@[simp] theorem State.storeTop_nmiLatch (w : Word) : (s.storeTop w).nmiLatch = s.nmiLatch := by simp [State.storeTop]
@[simp] theorem State.storeTop_clock (w : Word) : (s.storeTop w).clock = s.clock := by simp [State.storeTop]
@[simp] theorem State.storeTop_ioLog (w : Word) : (s.storeTop w).ioLog = s.ioLog := by simp [State.storeTop]
@[simp] theorem State.storeTop_dbg (w : Word) : (s.storeTop w).dbg = s.dbg := by simp [State.storeTop]
@[simp] theorem State.storeTop_faulted (w : Word) : (s.storeTop w).faulted = s.faulted := by simp [State.storeTop]
@[simp] theorem State.storeTop_refused (w : Word) : (s.storeTop w).refused = s.refused := by simp [State.storeTop]
@[simp] theorem State.storeTop_unset (w : Word) : (s.storeTop w).unset = s.unset := by simp [State.storeTop]
@[simp] theorem State.storeTop_cfg (w : Word) : (s.storeTop w).cfg = s.cfg := by simp [State.storeTop]
@[simp] theorem State.storeTop_env (w : Word) : (s.storeTop w).env = s.env := by simp [State.storeTop]
@[simp] theorem State.storeTop_draws (w : Word) : (s.storeTop w).draws = s.draws := by simp [State.storeTop]

/-! ### `portRead` -/

@[simp] theorem State.portRead_a (p : Word) : (s.portRead p).a = s.a := rfl
@[simp] theorem State.portRead_f (p : Word) : (s.portRead p).f = s.f := rfl
@[simp] theorem State.portRead_b (p : Word) : (s.portRead p).b = s.b := rfl
@[simp] theorem State.portRead_c (p : Word) : (s.portRead p).c = s.c := rfl
@[simp] theorem State.portRead_d (p : Word) : (s.portRead p).d = s.d := rfl
@[simp] theorem State.portRead_e (p : Word) : (s.portRead p).e = s.e := rfl
@[simp] theorem State.portRead_h (p : Word) : (s.portRead p).h = s.h := rfl
@[simp] theorem State.portRead_l (p : Word) : (s.portRead p).l = s.l := rfl
@[simp] theorem State.portRead_a' (p : Word) : (s.portRead p).a' = s.a' := rfl
@[simp] theorem State.portRead_f' (p : Word) : (s.portRead p).f' = s.f' := rfl
@[simp] theorem State.portRead_b' (p : Word) : (s.portRead p).b' = s.b' := rfl
@[simp] theorem State.portRead_c' (p : Word) : (s.portRead p).c' = s.c' := rfl
@[simp] theorem State.portRead_d' (p : Word) : (s.portRead p).d' = s.d' := rfl
@[simp] theorem State.portRead_e' (p : Word) : (s.portRead p).e' = s.e' := rfl
@[simp] theorem State.portRead_h' (p : Word) : (s.portRead p).h' = s.h' := rfl
@[simp] theorem State.portRead_l' (p : Word) : (s.portRead p).l' = s.l' := rfl
@[simp] theorem State.portRead_ix (p : Word) : (s.portRead p).ix = s.ix := rfl
@[simp] theorem State.portRead_iy (p : Word) : (s.portRead p).iy = s.iy := rfl
@[simp] theorem State.portRead_sp (p : Word) : (s.portRead p).sp = s.sp := rfl
@[simp] theorem State.portRead_pc (p : Word) : (s.portRead p).pc = s.pc := rfl
@[simp] theorem State.portRead_i (p : Word) : (s.portRead p).i = s.i := rfl
@[simp] theorem State.portRead_r (p : Word) : (s.portRead p).r = s.r := rfl
@[simp] theorem State.portRead_iff1 (p : Word) : (s.portRead p).iff1 = s.iff1 := rfl
@[simp] theorem State.portRead_iff2 (p : Word) : (s.portRead p).iff2 = s.iff2 := rfl
@[simp] theorem State.portRead_im (p : Word) : (s.portRead p).im = s.im := rfl
@[simp] theorem State.portRead_halted (p : Word) : (s.portRead p).halted = s.halted := rfl
@[simp] theorem State.portRead_eiShadow (p : Word) : (s.portRead p).eiShadow = s.eiShadow := rfl
@[simp] theorem State.portRead_nmiLatch (p : Word) : (s.portRead p).nmiLatch = s.nmiLatch := rfl
@[simp] theorem State.portRead_clock (p : Word) : (s.portRead p).clock = s.clock := rfl
@[simp] theorem State.portRead_mem (p : Word) : (s.portRead p).mem = s.mem := rfl
@[simp] theorem State.portRead_ioLog (p : Word) : (s.portRead p).ioLog = s.ioLog ++ [⟨.input, p, s.portValue p, s.clock⟩] := rfl
@[simp] theorem State.portRead_dbg (p : Word) : (s.portRead p).dbg = s.dbg := rfl
@[simp] theorem State.portRead_faulted (p : Word) : (s.portRead p).faulted = s.faulted := rfl
@[simp] theorem State.portRead_refused (p : Word) : (s.portRead p).refused = s.refused := rfl
@[simp] theorem State.portRead_unset (p : Word) : (s.portRead p).unset = s.unset := rfl
@[simp] theorem State.portRead_cfg (p : Word) : (s.portRead p).cfg = s.cfg := rfl
@[simp] theorem State.portRead_env (p : Word) : (s.portRead p).env = { s.env with port := s.env.port.next } := rfl
@[simp] theorem State.portRead_draws (p : Word) : (s.portRead p).draws = s.draws := rfl

/-! ### `portWrite` -/

@[simp] theorem State.portWrite_a (p : Word) (v : Byte) : (s.portWrite p v).a = s.a := rfl
@[simp] theorem State.portWrite_f (p : Word) (v : Byte) : (s.portWrite p v).f = s.f := rfl
@[simp] theorem State.portWrite_b (p : Word) (v : Byte) : (s.portWrite p v).b = s.b := rfl
@[simp] theorem State.portWrite_c (p : Word) (v : Byte) : (s.portWrite p v).c = s.c := rfl
@[simp] theorem State.portWrite_d (p : Word) (v : Byte) : (s.portWrite p v).d = s.d := rfl
@[simp] theorem State.portWrite_e (p : Word) (v : Byte) : (s.portWrite p v).e = s.e := rfl
@[simp] theorem State.portWrite_h (p : Word) (v : Byte) : (s.portWrite p v).h = s.h := rfl
@[simp] theorem State.portWrite_l (p : Word) (v : Byte) : (s.portWrite p v).l = s.l := rfl
@[simp] theorem State.portWrite_a' (p : Word) (v : Byte) : (s.portWrite p v).a' = s.a' := rfl
@[simp] theorem State.portWrite_f' (p : Word) (v : Byte) : (s.portWrite p v).f' = s.f' := rfl
@[simp] theorem State.portWrite_b' (p : Word) (v : Byte) : (s.portWrite p v).b' = s.b' := rfl
@[simp] theorem State.portWrite_c' (p : Word) (v : Byte) : (s.portWrite p v).c' = s.c' := rfl
@[simp] theorem State.portWrite_d' (p : Word) (v : Byte) : (s.portWrite p v).d' = s.d' := rfl
@[simp] theorem State.portWrite_e' (p : Word) (v : Byte) : (s.portWrite p v).e' = s.e' := rfl
@[simp] theorem State.portWrite_h' (p : Word) (v : Byte) : (s.portWrite p v).h' = s.h' := rfl
@[simp] theorem State.portWrite_l' (p : Word) (v : Byte) : (s.portWrite p v).l' = s.l' := rfl
@[simp] theorem State.portWrite_ix (p : Word) (v : Byte) : (s.portWrite p v).ix = s.ix := rfl
@[simp] theorem State.portWrite_iy (p : Word) (v : Byte) : (s.portWrite p v).iy = s.iy := rfl
@[simp] theorem State.portWrite_sp (p : Word) (v : Byte) : (s.portWrite p v).sp = s.sp := rfl
@[simp] theorem State.portWrite_pc (p : Word) (v : Byte) : (s.portWrite p v).pc = s.pc := rfl
@[simp] theorem State.portWrite_i (p : Word) (v : Byte) : (s.portWrite p v).i = s.i := rfl
@[simp] theorem State.portWrite_r (p : Word) (v : Byte) : (s.portWrite p v).r = s.r := rfl
@[simp] theorem State.portWrite_iff1 (p : Word) (v : Byte) : (s.portWrite p v).iff1 = s.iff1 := rfl
@[simp] theorem State.portWrite_iff2 (p : Word) (v : Byte) : (s.portWrite p v).iff2 = s.iff2 := rfl
@[simp] theorem State.portWrite_im (p : Word) (v : Byte) : (s.portWrite p v).im = s.im := rfl
@[simp] theorem State.portWrite_halted (p : Word) (v : Byte) : (s.portWrite p v).halted = s.halted := rfl
@[simp] theorem State.portWrite_eiShadow (p : Word) (v : Byte) : (s.portWrite p v).eiShadow = s.eiShadow := rfl
@[simp] theorem State.portWrite_nmiLatch (p : Word) (v : Byte) : (s.portWrite p v).nmiLatch = s.nmiLatch := rfl
@[simp] theorem State.portWrite_clock (p : Word) (v : Byte) : (s.portWrite p v).clock = s.clock := rfl
@[simp] theorem State.portWrite_mem (p : Word) (v : Byte) : (s.portWrite p v).mem = s.mem := rfl
@[simp] theorem State.portWrite_ioLog (p : Word) (v : Byte) : (s.portWrite p v).ioLog = s.ioLog ++ [⟨.output, p, v, s.clock⟩] := rfl
@[simp] theorem State.portWrite_dbg (p : Word) (v : Byte) : (s.portWrite p v).dbg = s.dbg := rfl
@[simp] theorem State.portWrite_faulted (p : Word) (v : Byte) : (s.portWrite p v).faulted = s.faulted := rfl
@[simp] theorem State.portWrite_refused (p : Word) (v : Byte) : (s.portWrite p v).refused = s.refused := rfl
@[simp] theorem State.portWrite_unset (p : Word) (v : Byte) : (s.portWrite p v).unset = s.unset := rfl
@[simp] theorem State.portWrite_cfg (p : Word) (v : Byte) : (s.portWrite p v).cfg = s.cfg := rfl
@[simp] theorem State.portWrite_env (p : Word) (v : Byte) : (s.portWrite p v).env = s.env := rfl
@[simp] theorem State.portWrite_draws (p : Word) (v : Byte) : (s.portWrite p v).draws = s.draws := rfl

/-! ### `writeFlags` -/

@[simp] theorem State.writeFlags_a (u : Byte) (g : Byte) (v : Byte) : (s.writeFlags u g v).a = s.a := rfl
@[simp] theorem State.writeFlags_f (u : Byte) (g : Byte) (v : Byte) : (s.writeFlags u g v).f = mixFree (s.drawnBits u g) v (Config.freeFlags s.draws) := rfl
@[simp] theorem State.writeFlags_b (u : Byte) (g : Byte) (v : Byte) : (s.writeFlags u g v).b = s.b := rfl
@[simp] theorem State.writeFlags_c (u : Byte) (g : Byte) (v : Byte) : (s.writeFlags u g v).c = s.c := rfl
@[simp] theorem State.writeFlags_d (u : Byte) (g : Byte) (v : Byte) : (s.writeFlags u g v).d = s.d := rfl
@[simp] theorem State.writeFlags_e (u : Byte) (g : Byte) (v : Byte) : (s.writeFlags u g v).e = s.e := rfl
@[simp] theorem State.writeFlags_h (u : Byte) (g : Byte) (v : Byte) : (s.writeFlags u g v).h = s.h := rfl
@[simp] theorem State.writeFlags_l (u : Byte) (g : Byte) (v : Byte) : (s.writeFlags u g v).l = s.l := rfl
@[simp] theorem State.writeFlags_a' (u : Byte) (g : Byte) (v : Byte) : (s.writeFlags u g v).a' = s.a' := rfl
@[simp] theorem State.writeFlags_f' (u : Byte) (g : Byte) (v : Byte) : (s.writeFlags u g v).f' = s.f' := rfl
@[simp] theorem State.writeFlags_b' (u : Byte) (g : Byte) (v : Byte) : (s.writeFlags u g v).b' = s.b' := rfl
@[simp] theorem State.writeFlags_c' (u : Byte) (g : Byte) (v : Byte) : (s.writeFlags u g v).c' = s.c' := rfl
@[simp] theorem State.writeFlags_d' (u : Byte) (g : Byte) (v : Byte) : (s.writeFlags u g v).d' = s.d' := rfl
@[simp] theorem State.writeFlags_e' (u : Byte) (g : Byte) (v : Byte) : (s.writeFlags u g v).e' = s.e' := rfl
@[simp] theorem State.writeFlags_h' (u : Byte) (g : Byte) (v : Byte) : (s.writeFlags u g v).h' = s.h' := rfl
@[simp] theorem State.writeFlags_l' (u : Byte) (g : Byte) (v : Byte) : (s.writeFlags u g v).l' = s.l' := rfl
@[simp] theorem State.writeFlags_ix (u : Byte) (g : Byte) (v : Byte) : (s.writeFlags u g v).ix = s.ix := rfl
@[simp] theorem State.writeFlags_iy (u : Byte) (g : Byte) (v : Byte) : (s.writeFlags u g v).iy = s.iy := rfl
@[simp] theorem State.writeFlags_sp (u : Byte) (g : Byte) (v : Byte) : (s.writeFlags u g v).sp = s.sp := rfl
@[simp] theorem State.writeFlags_pc (u : Byte) (g : Byte) (v : Byte) : (s.writeFlags u g v).pc = s.pc := rfl
@[simp] theorem State.writeFlags_i (u : Byte) (g : Byte) (v : Byte) : (s.writeFlags u g v).i = s.i := rfl
@[simp] theorem State.writeFlags_r (u : Byte) (g : Byte) (v : Byte) : (s.writeFlags u g v).r = s.r := rfl
@[simp] theorem State.writeFlags_iff1 (u : Byte) (g : Byte) (v : Byte) : (s.writeFlags u g v).iff1 = s.iff1 := rfl
@[simp] theorem State.writeFlags_iff2 (u : Byte) (g : Byte) (v : Byte) : (s.writeFlags u g v).iff2 = s.iff2 := rfl
@[simp] theorem State.writeFlags_im (u : Byte) (g : Byte) (v : Byte) : (s.writeFlags u g v).im = s.im := rfl
@[simp] theorem State.writeFlags_halted (u : Byte) (g : Byte) (v : Byte) : (s.writeFlags u g v).halted = s.halted := rfl
@[simp] theorem State.writeFlags_eiShadow (u : Byte) (g : Byte) (v : Byte) : (s.writeFlags u g v).eiShadow = s.eiShadow := rfl
@[simp] theorem State.writeFlags_nmiLatch (u : Byte) (g : Byte) (v : Byte) : (s.writeFlags u g v).nmiLatch = s.nmiLatch := rfl
@[simp] theorem State.writeFlags_clock (u : Byte) (g : Byte) (v : Byte) : (s.writeFlags u g v).clock = s.clock := rfl
@[simp] theorem State.writeFlags_mem (u : Byte) (g : Byte) (v : Byte) : (s.writeFlags u g v).mem = s.mem := rfl
@[simp] theorem State.writeFlags_ioLog (u : Byte) (g : Byte) (v : Byte) : (s.writeFlags u g v).ioLog = s.ioLog := rfl
@[simp] theorem State.writeFlags_dbg (u : Byte) (g : Byte) (v : Byte) : (s.writeFlags u g v).dbg = s.dbg := rfl
@[simp] theorem State.writeFlags_faulted (u : Byte) (g : Byte) (v : Byte) : (s.writeFlags u g v).faulted = s.faulted := rfl
@[simp] theorem State.writeFlags_refused (u : Byte) (g : Byte) (v : Byte) : (s.writeFlags u g v).refused = s.refused := rfl
@[simp] theorem State.writeFlags_unset (u : Byte) (g : Byte) (v : Byte) : (s.writeFlags u g v).unset = s.unset := rfl
@[simp] theorem State.writeFlags_cfg (u : Byte) (g : Byte) (v : Byte) : (s.writeFlags u g v).cfg = s.cfg := rfl
@[simp] theorem State.writeFlags_env (u : Byte) (g : Byte) (v : Byte) : (s.writeFlags u g v).env = s.env := rfl
@[simp] theorem State.writeFlags_draws (u : Byte) (g : Byte) (v : Byte) : (s.writeFlags u g v).draws = s.draws + 1 := rfl

/-! ### `setAluA` -/

@[simp] theorem State.setAluA_a (p : Byte × Byte) : (s.setAluA p).a = p.1 := rfl
@[simp] theorem State.setAluA_f (p : Byte × Byte) : (s.setAluA p).f = mixFree (s.drawnBits maskXY 0) p.2 (Config.freeFlags s.draws) := rfl
@[simp] theorem State.setAluA_b (p : Byte × Byte) : (s.setAluA p).b = s.b := rfl
@[simp] theorem State.setAluA_c (p : Byte × Byte) : (s.setAluA p).c = s.c := rfl
@[simp] theorem State.setAluA_d (p : Byte × Byte) : (s.setAluA p).d = s.d := rfl
@[simp] theorem State.setAluA_e (p : Byte × Byte) : (s.setAluA p).e = s.e := rfl
@[simp] theorem State.setAluA_h (p : Byte × Byte) : (s.setAluA p).h = s.h := rfl
@[simp] theorem State.setAluA_l (p : Byte × Byte) : (s.setAluA p).l = s.l := rfl
@[simp] theorem State.setAluA_a' (p : Byte × Byte) : (s.setAluA p).a' = s.a' := rfl
@[simp] theorem State.setAluA_f' (p : Byte × Byte) : (s.setAluA p).f' = s.f' := rfl
@[simp] theorem State.setAluA_b' (p : Byte × Byte) : (s.setAluA p).b' = s.b' := rfl
@[simp] theorem State.setAluA_c' (p : Byte × Byte) : (s.setAluA p).c' = s.c' := rfl
@[simp] theorem State.setAluA_d' (p : Byte × Byte) : (s.setAluA p).d' = s.d' := rfl
@[simp] theorem State.setAluA_e' (p : Byte × Byte) : (s.setAluA p).e' = s.e' := rfl
@[simp] theorem State.setAluA_h' (p : Byte × Byte) : (s.setAluA p).h' = s.h' := rfl
@[simp] theorem State.setAluA_l' (p : Byte × Byte) : (s.setAluA p).l' = s.l' := rfl
@[simp] theorem State.setAluA_ix (p : Byte × Byte) : (s.setAluA p).ix = s.ix := rfl
@[simp] theorem State.setAluA_iy (p : Byte × Byte) : (s.setAluA p).iy = s.iy := rfl
@[simp] theorem State.setAluA_sp (p : Byte × Byte) : (s.setAluA p).sp = s.sp := rfl
@[simp] theorem State.setAluA_pc (p : Byte × Byte) : (s.setAluA p).pc = s.pc := rfl
@[simp] theorem State.setAluA_i (p : Byte × Byte) : (s.setAluA p).i = s.i := rfl
@[simp] theorem State.setAluA_r (p : Byte × Byte) : (s.setAluA p).r = s.r := rfl
@[simp] theorem State.setAluA_iff1 (p : Byte × Byte) : (s.setAluA p).iff1 = s.iff1 := rfl
@[simp] theorem State.setAluA_iff2 (p : Byte × Byte) : (s.setAluA p).iff2 = s.iff2 := rfl
@[simp] theorem State.setAluA_im (p : Byte × Byte) : (s.setAluA p).im = s.im := rfl
@[simp] theorem State.setAluA_halted (p : Byte × Byte) : (s.setAluA p).halted = s.halted := rfl
@[simp] theorem State.setAluA_eiShadow (p : Byte × Byte) : (s.setAluA p).eiShadow = s.eiShadow := rfl
@[simp] theorem State.setAluA_nmiLatch (p : Byte × Byte) : (s.setAluA p).nmiLatch = s.nmiLatch := rfl
@[simp] theorem State.setAluA_clock (p : Byte × Byte) : (s.setAluA p).clock = s.clock := rfl
@[simp] theorem State.setAluA_mem (p : Byte × Byte) : (s.setAluA p).mem = s.mem := rfl
@[simp] theorem State.setAluA_ioLog (p : Byte × Byte) : (s.setAluA p).ioLog = s.ioLog := rfl
@[simp] theorem State.setAluA_dbg (p : Byte × Byte) : (s.setAluA p).dbg = s.dbg := rfl
@[simp] theorem State.setAluA_faulted (p : Byte × Byte) : (s.setAluA p).faulted = s.faulted := rfl
@[simp] theorem State.setAluA_refused (p : Byte × Byte) : (s.setAluA p).refused = s.refused := rfl
@[simp] theorem State.setAluA_unset (p : Byte × Byte) : (s.setAluA p).unset = s.unset := rfl
@[simp] theorem State.setAluA_cfg (p : Byte × Byte) : (s.setAluA p).cfg = s.cfg := rfl
@[simp] theorem State.setAluA_env (p : Byte × Byte) : (s.setAluA p).env = s.env := rfl
@[simp] theorem State.setAluA_draws (p : Byte × Byte) : (s.setAluA p).draws = s.draws + 1 := rfl

/-! ### `setAluHL` -/

@[simp] theorem State.setAluHL_a (p : Word × Byte) : (s.setAluHL p).a = s.a := rfl
@[simp] theorem State.setAluHL_f (p : Word × Byte) : (s.setAluHL p).f = mixFree (s.drawnBits maskXY 0) p.2 (Config.freeFlags s.draws) := rfl
@[simp] theorem State.setAluHL_b (p : Word × Byte) : (s.setAluHL p).b = s.b := rfl
@[simp] theorem State.setAluHL_c (p : Word × Byte) : (s.setAluHL p).c = s.c := rfl
@[simp] theorem State.setAluHL_d (p : Word × Byte) : (s.setAluHL p).d = s.d := rfl
@[simp] theorem State.setAluHL_e (p : Word × Byte) : (s.setAluHL p).e = s.e := rfl
@[simp] theorem State.setAluHL_h (p : Word × Byte) : (s.setAluHL p).h = hi p.1 := rfl
@[simp] theorem State.setAluHL_l (p : Word × Byte) : (s.setAluHL p).l = lo p.1 := rfl
@[simp] theorem State.setAluHL_a' (p : Word × Byte) : (s.setAluHL p).a' = s.a' := rfl
@[simp] theorem State.setAluHL_f' (p : Word × Byte) : (s.setAluHL p).f' = s.f' := rfl
@[simp] theorem State.setAluHL_b' (p : Word × Byte) : (s.setAluHL p).b' = s.b' := rfl
@[simp] theorem State.setAluHL_c' (p : Word × Byte) : (s.setAluHL p).c' = s.c' := rfl
@[simp] theorem State.setAluHL_d' (p : Word × Byte) : (s.setAluHL p).d' = s.d' := rfl
@[simp] theorem State.setAluHL_e' (p : Word × Byte) : (s.setAluHL p).e' = s.e' := rfl
@[simp] theorem State.setAluHL_h' (p : Word × Byte) : (s.setAluHL p).h' = s.h' := rfl
@[simp] theorem State.setAluHL_l' (p : Word × Byte) : (s.setAluHL p).l' = s.l' := rfl
@[simp] theorem State.setAluHL_ix (p : Word × Byte) : (s.setAluHL p).ix = s.ix := rfl
@[simp] theorem State.setAluHL_iy (p : Word × Byte) : (s.setAluHL p).iy = s.iy := rfl
@[simp] theorem State.setAluHL_sp (p : Word × Byte) : (s.setAluHL p).sp = s.sp := rfl
@[simp] theorem State.setAluHL_pc (p : Word × Byte) : (s.setAluHL p).pc = s.pc := rfl
@[simp] theorem State.setAluHL_i (p : Word × Byte) : (s.setAluHL p).i = s.i := rfl
@[simp] theorem State.setAluHL_r (p : Word × Byte) : (s.setAluHL p).r = s.r := rfl
@[simp] theorem State.setAluHL_iff1 (p : Word × Byte) : (s.setAluHL p).iff1 = s.iff1 := rfl
@[simp] theorem State.setAluHL_iff2 (p : Word × Byte) : (s.setAluHL p).iff2 = s.iff2 := rfl
@[simp] theorem State.setAluHL_im (p : Word × Byte) : (s.setAluHL p).im = s.im := rfl
@[simp] theorem State.setAluHL_halted (p : Word × Byte) : (s.setAluHL p).halted = s.halted := rfl
@[simp] theorem State.setAluHL_eiShadow (p : Word × Byte) : (s.setAluHL p).eiShadow = s.eiShadow := rfl
@[simp] theorem State.setAluHL_nmiLatch (p : Word × Byte) : (s.setAluHL p).nmiLatch = s.nmiLatch := rfl
@[simp] theorem State.setAluHL_clock (p : Word × Byte) : (s.setAluHL p).clock = s.clock := rfl
@[simp] theorem State.setAluHL_mem (p : Word × Byte) : (s.setAluHL p).mem = s.mem := rfl
@[simp] theorem State.setAluHL_ioLog (p : Word × Byte) : (s.setAluHL p).ioLog = s.ioLog := rfl
@[simp] theorem State.setAluHL_dbg (p : Word × Byte) : (s.setAluHL p).dbg = s.dbg := rfl
@[simp] theorem State.setAluHL_faulted (p : Word × Byte) : (s.setAluHL p).faulted = s.faulted := rfl
@[simp] theorem State.setAluHL_refused (p : Word × Byte) : (s.setAluHL p).refused = s.refused := rfl
@[simp] theorem State.setAluHL_unset (p : Word × Byte) : (s.setAluHL p).unset = s.unset := rfl
@[simp] theorem State.setAluHL_cfg (p : Word × Byte) : (s.setAluHL p).cfg = s.cfg := rfl
@[simp] theorem State.setAluHL_env (p : Word × Byte) : (s.setAluHL p).env = s.env := rfl
@[simp] theorem State.setAluHL_draws (p : Word × Byte) : (s.setAluHL p).draws = s.draws + 1 := rfl

/-! ### `moveFlags` -/

@[simp] theorem State.moveFlags_a (v : Byte) (q : Bool) : (s.moveFlags v q).a = s.a := rfl
@[simp] theorem State.moveFlags_b (v : Byte) (q : Bool) : (s.moveFlags v q).b = s.b := rfl
@[simp] theorem State.moveFlags_c (v : Byte) (q : Bool) : (s.moveFlags v q).c = s.c := rfl
@[simp] theorem State.moveFlags_d (v : Byte) (q : Bool) : (s.moveFlags v q).d = s.d := rfl
@[simp] theorem State.moveFlags_e (v : Byte) (q : Bool) : (s.moveFlags v q).e = s.e := rfl
@[simp] theorem State.moveFlags_h (v : Byte) (q : Bool) : (s.moveFlags v q).h = s.h := rfl
@[simp] theorem State.moveFlags_l (v : Byte) (q : Bool) : (s.moveFlags v q).l = s.l := rfl
@[simp] theorem State.moveFlags_a' (v : Byte) (q : Bool) : (s.moveFlags v q).a' = s.a' := rfl
@[simp] theorem State.moveFlags_f' (v : Byte) (q : Bool) : (s.moveFlags v q).f' = s.f' := rfl
@[simp] theorem State.moveFlags_b' (v : Byte) (q : Bool) : (s.moveFlags v q).b' = s.b' := rfl
@[simp] theorem State.moveFlags_c' (v : Byte) (q : Bool) : (s.moveFlags v q).c' = s.c' := rfl
@[simp] theorem State.moveFlags_d' (v : Byte) (q : Bool) : (s.moveFlags v q).d' = s.d' := rfl
@[simp] theorem State.moveFlags_e' (v : Byte) (q : Bool) : (s.moveFlags v q).e' = s.e' := rfl
@[simp] theorem State.moveFlags_h' (v : Byte) (q : Bool) : (s.moveFlags v q).h' = s.h' := rfl
@[simp] theorem State.moveFlags_l' (v : Byte) (q : Bool) : (s.moveFlags v q).l' = s.l' := rfl
@[simp] theorem State.moveFlags_ix (v : Byte) (q : Bool) : (s.moveFlags v q).ix = s.ix := rfl
@[simp] theorem State.moveFlags_iy (v : Byte) (q : Bool) : (s.moveFlags v q).iy = s.iy := rfl
@[simp] theorem State.moveFlags_sp (v : Byte) (q : Bool) : (s.moveFlags v q).sp = s.sp := rfl
@[simp] theorem State.moveFlags_pc (v : Byte) (q : Bool) : (s.moveFlags v q).pc = s.pc := rfl
@[simp] theorem State.moveFlags_i (v : Byte) (q : Bool) : (s.moveFlags v q).i = s.i := rfl
@[simp] theorem State.moveFlags_r (v : Byte) (q : Bool) : (s.moveFlags v q).r = s.r := rfl
@[simp] theorem State.moveFlags_iff1 (v : Byte) (q : Bool) : (s.moveFlags v q).iff1 = s.iff1 := rfl
@[simp] theorem State.moveFlags_iff2 (v : Byte) (q : Bool) : (s.moveFlags v q).iff2 = s.iff2 := rfl
@[simp] theorem State.moveFlags_im (v : Byte) (q : Bool) : (s.moveFlags v q).im = s.im := rfl
@[simp] theorem State.moveFlags_halted (v : Byte) (q : Bool) : (s.moveFlags v q).halted = s.halted := rfl
@[simp] theorem State.moveFlags_eiShadow (v : Byte) (q : Bool) : (s.moveFlags v q).eiShadow = s.eiShadow := rfl
@[simp] theorem State.moveFlags_nmiLatch (v : Byte) (q : Bool) : (s.moveFlags v q).nmiLatch = s.nmiLatch := rfl
@[simp] theorem State.moveFlags_clock (v : Byte) (q : Bool) : (s.moveFlags v q).clock = s.clock := rfl
@[simp] theorem State.moveFlags_mem (v : Byte) (q : Bool) : (s.moveFlags v q).mem = s.mem := rfl
@[simp] theorem State.moveFlags_ioLog (v : Byte) (q : Bool) : (s.moveFlags v q).ioLog = s.ioLog := rfl
@[simp] theorem State.moveFlags_dbg (v : Byte) (q : Bool) : (s.moveFlags v q).dbg = s.dbg := rfl
@[simp] theorem State.moveFlags_faulted (v : Byte) (q : Bool) : (s.moveFlags v q).faulted = s.faulted := rfl
@[simp] theorem State.moveFlags_refused (v : Byte) (q : Bool) : (s.moveFlags v q).refused = s.refused := rfl
@[simp] theorem State.moveFlags_unset (v : Byte) (q : Bool) : (s.moveFlags v q).unset = s.unset := rfl
@[simp] theorem State.moveFlags_cfg (v : Byte) (q : Bool) : (s.moveFlags v q).cfg = s.cfg := rfl
@[simp] theorem State.moveFlags_env (v : Byte) (q : Bool) : (s.moveFlags v q).env = s.env := rfl
@[simp] theorem State.moveFlags_draws (v : Byte) (q : Bool) : (s.moveFlags v q).draws = s.draws + 1 := rfl

/-! ### `rotFlags` -/

@[simp] theorem State.rotFlags_a (k : Rot) (v : Byte) : (s.rotFlags k v).a = s.a := rfl
@[simp] theorem State.rotFlags_b (k : Rot) (v : Byte) : (s.rotFlags k v).b = s.b := rfl
@[simp] theorem State.rotFlags_c (k : Rot) (v : Byte) : (s.rotFlags k v).c = s.c := rfl
@[simp] theorem State.rotFlags_d (k : Rot) (v : Byte) : (s.rotFlags k v).d = s.d := rfl
@[simp] theorem State.rotFlags_e (k : Rot) (v : Byte) : (s.rotFlags k v).e = s.e := rfl
@[simp] theorem State.rotFlags_h (k : Rot) (v : Byte) : (s.rotFlags k v).h = s.h := rfl
@[simp] theorem State.rotFlags_l (k : Rot) (v : Byte) : (s.rotFlags k v).l = s.l := rfl
@[simp] theorem State.rotFlags_a' (k : Rot) (v : Byte) : (s.rotFlags k v).a' = s.a' := rfl
@[simp] theorem State.rotFlags_f' (k : Rot) (v : Byte) : (s.rotFlags k v).f' = s.f' := rfl
@[simp] theorem State.rotFlags_b' (k : Rot) (v : Byte) : (s.rotFlags k v).b' = s.b' := rfl
@[simp] theorem State.rotFlags_c' (k : Rot) (v : Byte) : (s.rotFlags k v).c' = s.c' := rfl
@[simp] theorem State.rotFlags_d' (k : Rot) (v : Byte) : (s.rotFlags k v).d' = s.d' := rfl
@[simp] theorem State.rotFlags_e' (k : Rot) (v : Byte) : (s.rotFlags k v).e' = s.e' := rfl
@[simp] theorem State.rotFlags_h' (k : Rot) (v : Byte) : (s.rotFlags k v).h' = s.h' := rfl
@[simp] theorem State.rotFlags_l' (k : Rot) (v : Byte) : (s.rotFlags k v).l' = s.l' := rfl
@[simp] theorem State.rotFlags_ix (k : Rot) (v : Byte) : (s.rotFlags k v).ix = s.ix := rfl
@[simp] theorem State.rotFlags_iy (k : Rot) (v : Byte) : (s.rotFlags k v).iy = s.iy := rfl
@[simp] theorem State.rotFlags_sp (k : Rot) (v : Byte) : (s.rotFlags k v).sp = s.sp := rfl
@[simp] theorem State.rotFlags_pc (k : Rot) (v : Byte) : (s.rotFlags k v).pc = s.pc := rfl
@[simp] theorem State.rotFlags_i (k : Rot) (v : Byte) : (s.rotFlags k v).i = s.i := rfl
@[simp] theorem State.rotFlags_r (k : Rot) (v : Byte) : (s.rotFlags k v).r = s.r := rfl
@[simp] theorem State.rotFlags_iff1 (k : Rot) (v : Byte) : (s.rotFlags k v).iff1 = s.iff1 := rfl
@[simp] theorem State.rotFlags_iff2 (k : Rot) (v : Byte) : (s.rotFlags k v).iff2 = s.iff2 := rfl
@[simp] theorem State.rotFlags_im (k : Rot) (v : Byte) : (s.rotFlags k v).im = s.im := rfl
@[simp] theorem State.rotFlags_halted (k : Rot) (v : Byte) : (s.rotFlags k v).halted = s.halted := rfl
@[simp] theorem State.rotFlags_eiShadow (k : Rot) (v : Byte) : (s.rotFlags k v).eiShadow = s.eiShadow := rfl
@[simp] theorem State.rotFlags_nmiLatch (k : Rot) (v : Byte) : (s.rotFlags k v).nmiLatch = s.nmiLatch := rfl
@[simp] theorem State.rotFlags_clock (k : Rot) (v : Byte) : (s.rotFlags k v).clock = s.clock := rfl
@[simp] theorem State.rotFlags_mem (k : Rot) (v : Byte) : (s.rotFlags k v).mem = s.mem := rfl
@[simp] theorem State.rotFlags_ioLog (k : Rot) (v : Byte) : (s.rotFlags k v).ioLog = s.ioLog := rfl
@[simp] theorem State.rotFlags_dbg (k : Rot) (v : Byte) : (s.rotFlags k v).dbg = s.dbg := rfl
@[simp] theorem State.rotFlags_faulted (k : Rot) (v : Byte) : (s.rotFlags k v).faulted = s.faulted := rfl
@[simp] theorem State.rotFlags_refused (k : Rot) (v : Byte) : (s.rotFlags k v).refused = s.refused := rfl
@[simp] theorem State.rotFlags_unset (k : Rot) (v : Byte) : (s.rotFlags k v).unset = s.unset := rfl
@[simp] theorem State.rotFlags_cfg (k : Rot) (v : Byte) : (s.rotFlags k v).cfg = s.cfg := rfl
@[simp] theorem State.rotFlags_env (k : Rot) (v : Byte) : (s.rotFlags k v).env = s.env := rfl
@[simp] theorem State.rotFlags_draws (k : Rot) (v : Byte) : (s.rotFlags k v).draws = s.draws + 1 := rfl

/-! ### `incFlags` -/

@[simp] theorem State.incFlags_a (v : Byte) : (s.incFlags v).a = s.a := rfl
@[simp] theorem State.incFlags_b (v : Byte) : (s.incFlags v).b = s.b := rfl
@[simp] theorem State.incFlags_c (v : Byte) : (s.incFlags v).c = s.c := rfl
@[simp] theorem State.incFlags_d (v : Byte) : (s.incFlags v).d = s.d := rfl
@[simp] theorem State.incFlags_e (v : Byte) : (s.incFlags v).e = s.e := rfl
@[simp] theorem State.incFlags_h (v : Byte) : (s.incFlags v).h = s.h := rfl
@[simp] theorem State.incFlags_l (v : Byte) : (s.incFlags v).l = s.l := rfl
@[simp] theorem State.incFlags_a' (v : Byte) : (s.incFlags v).a' = s.a' := rfl
@[simp] theorem State.incFlags_f' (v : Byte) : (s.incFlags v).f' = s.f' := rfl
@[simp] theorem State.incFlags_b' (v : Byte) : (s.incFlags v).b' = s.b' := rfl
@[simp] theorem State.incFlags_c' (v : Byte) : (s.incFlags v).c' = s.c' := rfl
@[simp] theorem State.incFlags_d' (v : Byte) : (s.incFlags v).d' = s.d' := rfl
@[simp] theorem State.incFlags_e' (v : Byte) : (s.incFlags v).e' = s.e' := rfl
@[simp] theorem State.incFlags_h' (v : Byte) : (s.incFlags v).h' = s.h' := rfl
@[simp] theorem State.incFlags_l' (v : Byte) : (s.incFlags v).l' = s.l' := rfl
@[simp] theorem State.incFlags_ix (v : Byte) : (s.incFlags v).ix = s.ix := rfl
@[simp] theorem State.incFlags_iy (v : Byte) : (s.incFlags v).iy = s.iy := rfl
@[simp] theorem State.incFlags_sp (v : Byte) : (s.incFlags v).sp = s.sp := rfl
@[simp] theorem State.incFlags_pc (v : Byte) : (s.incFlags v).pc = s.pc := rfl
@[simp] theorem State.incFlags_i (v : Byte) : (s.incFlags v).i = s.i := rfl
@[simp] theorem State.incFlags_r (v : Byte) : (s.incFlags v).r = s.r := rfl
@[simp] theorem State.incFlags_iff1 (v : Byte) : (s.incFlags v).iff1 = s.iff1 := rfl
@[simp] theorem State.incFlags_iff2 (v : Byte) : (s.incFlags v).iff2 = s.iff2 := rfl
@[simp] theorem State.incFlags_im (v : Byte) : (s.incFlags v).im = s.im := rfl
@[simp] theorem State.incFlags_halted (v : Byte) : (s.incFlags v).halted = s.halted := rfl
@[simp] theorem State.incFlags_eiShadow (v : Byte) : (s.incFlags v).eiShadow = s.eiShadow := rfl
@[simp] theorem State.incFlags_nmiLatch (v : Byte) : (s.incFlags v).nmiLatch = s.nmiLatch := rfl
@[simp] theorem State.incFlags_clock (v : Byte) : (s.incFlags v).clock = s.clock := rfl
@[simp] theorem State.incFlags_mem (v : Byte) : (s.incFlags v).mem = s.mem := rfl
@[simp] theorem State.incFlags_ioLog (v : Byte) : (s.incFlags v).ioLog = s.ioLog := rfl
@[simp] theorem State.incFlags_dbg (v : Byte) : (s.incFlags v).dbg = s.dbg := rfl
@[simp] theorem State.incFlags_faulted (v : Byte) : (s.incFlags v).faulted = s.faulted := rfl
@[simp] theorem State.incFlags_refused (v : Byte) : (s.incFlags v).refused = s.refused := rfl
@[simp] theorem State.incFlags_unset (v : Byte) : (s.incFlags v).unset = s.unset := rfl
@[simp] theorem State.incFlags_cfg (v : Byte) : (s.incFlags v).cfg = s.cfg := rfl
@[simp] theorem State.incFlags_env (v : Byte) : (s.incFlags v).env = s.env := rfl
@[simp] theorem State.incFlags_draws (v : Byte) : (s.incFlags v).draws = s.draws + 1 := rfl

/-! ### `decFlags` -/

@[simp] theorem State.decFlags_a (v : Byte) : (s.decFlags v).a = s.a := rfl
@[simp] theorem State.decFlags_b (v : Byte) : (s.decFlags v).b = s.b := rfl
@[simp] theorem State.decFlags_c (v : Byte) : (s.decFlags v).c = s.c := rfl
@[simp] theorem State.decFlags_d (v : Byte) : (s.decFlags v).d = s.d := rfl
@[simp] theorem State.decFlags_e (v : Byte) : (s.decFlags v).e = s.e := rfl
@[simp] theorem State.decFlags_h (v : Byte) : (s.decFlags v).h = s.h := rfl
@[simp] theorem State.decFlags_l (v : Byte) : (s.decFlags v).l = s.l := rfl
@[simp] theorem State.decFlags_a' (v : Byte) : (s.decFlags v).a' = s.a' := rfl
@[simp] theorem State.decFlags_f' (v : Byte) : (s.decFlags v).f' = s.f' := rfl
@[simp] theorem State.decFlags_b' (v : Byte) : (s.decFlags v).b' = s.b' := rfl
@[simp] theorem State.decFlags_c' (v : Byte) : (s.decFlags v).c' = s.c' := rfl
@[simp] theorem State.decFlags_d' (v : Byte) : (s.decFlags v).d' = s.d' := rfl
@[simp] theorem State.decFlags_e' (v : Byte) : (s.decFlags v).e' = s.e' := rfl
@[simp] theorem State.decFlags_h' (v : Byte) : (s.decFlags v).h' = s.h' := rfl
@[simp] theorem State.decFlags_l' (v : Byte) : (s.decFlags v).l' = s.l' := rfl
@[simp] theorem State.decFlags_ix (v : Byte) : (s.decFlags v).ix = s.ix := rfl
@[simp] theorem State.decFlags_iy (v : Byte) : (s.decFlags v).iy = s.iy := rfl
@[simp] theorem State.decFlags_sp (v : Byte) : (s.decFlags v).sp = s.sp := rfl
@[simp] theorem State.decFlags_pc (v : Byte) : (s.decFlags v).pc = s.pc := rfl
@[simp] theorem State.decFlags_i (v : Byte) : (s.decFlags v).i = s.i := rfl
@[simp] theorem State.decFlags_r (v : Byte) : (s.decFlags v).r = s.r := rfl
@[simp] theorem State.decFlags_iff1 (v : Byte) : (s.decFlags v).iff1 = s.iff1 := rfl
@[simp] theorem State.decFlags_iff2 (v : Byte) : (s.decFlags v).iff2 = s.iff2 := rfl
@[simp] theorem State.decFlags_im (v : Byte) : (s.decFlags v).im = s.im := rfl
@[simp] theorem State.decFlags_halted (v : Byte) : (s.decFlags v).halted = s.halted := rfl
@[simp] theorem State.decFlags_eiShadow (v : Byte) : (s.decFlags v).eiShadow = s.eiShadow := rfl
@[simp] theorem State.decFlags_nmiLatch (v : Byte) : (s.decFlags v).nmiLatch = s.nmiLatch := rfl
@[simp] theorem State.decFlags_clock (v : Byte) : (s.decFlags v).clock = s.clock := rfl
@[simp] theorem State.decFlags_mem (v : Byte) : (s.decFlags v).mem = s.mem := rfl
@[simp] theorem State.decFlags_ioLog (v : Byte) : (s.decFlags v).ioLog = s.ioLog := rfl
@[simp] theorem State.decFlags_dbg (v : Byte) : (s.decFlags v).dbg = s.dbg := rfl
@[simp] theorem State.decFlags_faulted (v : Byte) : (s.decFlags v).faulted = s.faulted := rfl
@[simp] theorem State.decFlags_refused (v : Byte) : (s.decFlags v).refused = s.refused := rfl
@[simp] theorem State.decFlags_unset (v : Byte) : (s.decFlags v).unset = s.unset := rfl
@[simp] theorem State.decFlags_cfg (v : Byte) : (s.decFlags v).cfg = s.cfg := rfl
@[simp] theorem State.decFlags_env (v : Byte) : (s.decFlags v).env = s.env := rfl
@[simp] theorem State.decFlags_draws (v : Byte) : (s.decFlags v).draws = s.draws + 1 := rfl

/-! ### `aluCp` -/

@[simp] theorem State.aluCp_a (v : Byte) : (s.aluCp v).a = s.a := rfl
@[simp] theorem State.aluCp_b (v : Byte) : (s.aluCp v).b = s.b := rfl
@[simp] theorem State.aluCp_c (v : Byte) : (s.aluCp v).c = s.c := rfl
@[simp] theorem State.aluCp_d (v : Byte) : (s.aluCp v).d = s.d := rfl
@[simp] theorem State.aluCp_e (v : Byte) : (s.aluCp v).e = s.e := rfl
@[simp] theorem State.aluCp_h (v : Byte) : (s.aluCp v).h = s.h := rfl
@[simp] theorem State.aluCp_l (v : Byte) : (s.aluCp v).l = s.l := rfl
@[simp] theorem State.aluCp_a' (v : Byte) : (s.aluCp v).a' = s.a' := rfl
@[simp] theorem State.aluCp_f' (v : Byte) : (s.aluCp v).f' = s.f' := rfl
@[simp] theorem State.aluCp_b' (v : Byte) : (s.aluCp v).b' = s.b' := rfl
@[simp] theorem State.aluCp_c' (v : Byte) : (s.aluCp v).c' = s.c' := rfl
@[simp] theorem State.aluCp_d' (v : Byte) : (s.aluCp v).d' = s.d' := rfl
@[simp] theorem State.aluCp_e' (v : Byte) : (s.aluCp v).e' = s.e' := rfl
@[simp] theorem State.aluCp_h' (v : Byte) : (s.aluCp v).h' = s.h' := rfl
@[simp] theorem State.aluCp_l' (v : Byte) : (s.aluCp v).l' = s.l' := rfl
@[simp] theorem State.aluCp_ix (v : Byte) : (s.aluCp v).ix = s.ix := rfl
@[simp] theorem State.aluCp_iy (v : Byte) : (s.aluCp v).iy = s.iy := rfl
@[simp] theorem State.aluCp_sp (v : Byte) : (s.aluCp v).sp = s.sp := rfl
@[simp] theorem State.aluCp_pc (v : Byte) : (s.aluCp v).pc = s.pc := rfl
@[simp] theorem State.aluCp_i (v : Byte) : (s.aluCp v).i = s.i := rfl
@[simp] theorem State.aluCp_r (v : Byte) : (s.aluCp v).r = s.r := rfl
@[simp] theorem State.aluCp_iff1 (v : Byte) : (s.aluCp v).iff1 = s.iff1 := rfl
@[simp] theorem State.aluCp_iff2 (v : Byte) : (s.aluCp v).iff2 = s.iff2 := rfl
@[simp] theorem State.aluCp_im (v : Byte) : (s.aluCp v).im = s.im := rfl
@[simp] theorem State.aluCp_halted (v : Byte) : (s.aluCp v).halted = s.halted := rfl
@[simp] theorem State.aluCp_eiShadow (v : Byte) : (s.aluCp v).eiShadow = s.eiShadow := rfl
@[simp] theorem State.aluCp_nmiLatch (v : Byte) : (s.aluCp v).nmiLatch = s.nmiLatch := rfl
@[simp] theorem State.aluCp_clock (v : Byte) : (s.aluCp v).clock = s.clock := rfl
@[simp] theorem State.aluCp_mem (v : Byte) : (s.aluCp v).mem = s.mem := rfl
@[simp] theorem State.aluCp_ioLog (v : Byte) : (s.aluCp v).ioLog = s.ioLog := rfl
@[simp] theorem State.aluCp_dbg (v : Byte) : (s.aluCp v).dbg = s.dbg := rfl
@[simp] theorem State.aluCp_faulted (v : Byte) : (s.aluCp v).faulted = s.faulted := rfl
@[simp] theorem State.aluCp_refused (v : Byte) : (s.aluCp v).refused = s.refused := rfl
@[simp] theorem State.aluCp_unset (v : Byte) : (s.aluCp v).unset = s.unset := rfl
@[simp] theorem State.aluCp_cfg (v : Byte) : (s.aluCp v).cfg = s.cfg := rfl
@[simp] theorem State.aluCp_env (v : Byte) : (s.aluCp v).env = s.env := rfl
@[simp] theorem State.aluCp_draws (v : Byte) : (s.aluCp v).draws = s.draws + 1 := rfl

/-! ### `ioFlags` -/

@[simp] theorem State.ioFlags_a (v : Byte) (k : Nat) : (s.ioFlags v k).a = s.a := rfl
@[simp] theorem State.ioFlags_b (v : Byte) (k : Nat) : (s.ioFlags v k).b = s.b := rfl
@[simp] theorem State.ioFlags_c (v : Byte) (k : Nat) : (s.ioFlags v k).c = s.c := rfl
@[simp] theorem State.ioFlags_d (v : Byte) (k : Nat) : (s.ioFlags v k).d = s.d := rfl
@[simp] theorem State.ioFlags_e (v : Byte) (k : Nat) : (s.ioFlags v k).e = s.e := rfl
@[simp] theorem State.ioFlags_h (v : Byte) (k : Nat) : (s.ioFlags v k).h = s.h := rfl
@[simp] theorem State.ioFlags_l (v : Byte) (k : Nat) : (s.ioFlags v k).l = s.l := rfl
@[simp] theorem State.ioFlags_a' (v : Byte) (k : Nat) : (s.ioFlags v k).a' = s.a' := rfl
@[simp] theorem State.ioFlags_f' (v : Byte) (k : Nat) : (s.ioFlags v k).f' = s.f' := rfl
@[simp] theorem State.ioFlags_b' (v : Byte) (k : Nat) : (s.ioFlags v k).b' = s.b' := rfl
@[simp] theorem State.ioFlags_c' (v : Byte) (k : Nat) : (s.ioFlags v k).c' = s.c' := rfl
@[simp] theorem State.ioFlags_d' (v : Byte) (k : Nat) : (s.ioFlags v k).d' = s.d' := rfl
@[simp] theorem State.ioFlags_e' (v : Byte) (k : Nat) : (s.ioFlags v k).e' = s.e' := rfl
@[simp] theorem State.ioFlags_h' (v : Byte) (k : Nat) : (s.ioFlags v k).h' = s.h' := rfl
@[simp] theorem State.ioFlags_l' (v : Byte) (k : Nat) : (s.ioFlags v k).l' = s.l' := rfl
@[simp] theorem State.ioFlags_ix (v : Byte) (k : Nat) : (s.ioFlags v k).ix = s.ix := rfl
@[simp] theorem State.ioFlags_iy (v : Byte) (k : Nat) : (s.ioFlags v k).iy = s.iy := rfl
@[simp] theorem State.ioFlags_sp (v : Byte) (k : Nat) : (s.ioFlags v k).sp = s.sp := rfl
@[simp] theorem State.ioFlags_pc (v : Byte) (k : Nat) : (s.ioFlags v k).pc = s.pc := rfl
@[simp] theorem State.ioFlags_i (v : Byte) (k : Nat) : (s.ioFlags v k).i = s.i := rfl
@[simp] theorem State.ioFlags_r (v : Byte) (k : Nat) : (s.ioFlags v k).r = s.r := rfl
@[simp] theorem State.ioFlags_iff1 (v : Byte) (k : Nat) : (s.ioFlags v k).iff1 = s.iff1 := rfl
@[simp] theorem State.ioFlags_iff2 (v : Byte) (k : Nat) : (s.ioFlags v k).iff2 = s.iff2 := rfl
@[simp] theorem State.ioFlags_im (v : Byte) (k : Nat) : (s.ioFlags v k).im = s.im := rfl
@[simp] theorem State.ioFlags_halted (v : Byte) (k : Nat) : (s.ioFlags v k).halted = s.halted := rfl
@[simp] theorem State.ioFlags_eiShadow (v : Byte) (k : Nat) : (s.ioFlags v k).eiShadow = s.eiShadow := rfl
@[simp] theorem State.ioFlags_nmiLatch (v : Byte) (k : Nat) : (s.ioFlags v k).nmiLatch = s.nmiLatch := rfl
@[simp] theorem State.ioFlags_clock (v : Byte) (k : Nat) : (s.ioFlags v k).clock = s.clock := rfl
@[simp] theorem State.ioFlags_mem (v : Byte) (k : Nat) : (s.ioFlags v k).mem = s.mem := rfl
@[simp] theorem State.ioFlags_ioLog (v : Byte) (k : Nat) : (s.ioFlags v k).ioLog = s.ioLog := rfl
@[simp] theorem State.ioFlags_dbg (v : Byte) (k : Nat) : (s.ioFlags v k).dbg = s.dbg := rfl
@[simp] theorem State.ioFlags_faulted (v : Byte) (k : Nat) : (s.ioFlags v k).faulted = s.faulted := rfl
@[simp] theorem State.ioFlags_refused (v : Byte) (k : Nat) : (s.ioFlags v k).refused = s.refused := rfl
@[simp] theorem State.ioFlags_unset (v : Byte) (k : Nat) : (s.ioFlags v k).unset = s.unset := rfl
@[simp] theorem State.ioFlags_cfg (v : Byte) (k : Nat) : (s.ioFlags v k).cfg = s.cfg := rfl
@[simp] theorem State.ioFlags_env (v : Byte) (k : Nat) : (s.ioFlags v k).env = s.env := rfl
@[simp] theorem State.ioFlags_draws (v : Byte) (k : Nat) : (s.ioFlags v k).draws = s.draws + 1 := rfl

/-! ### `bitReg` -/

@[simp] theorem State.bitReg_a (b : BitVec 3) (v : Byte) : (s.bitReg b v).a = s.a := rfl
@[simp] theorem State.bitReg_b (b : BitVec 3) (v : Byte) : (s.bitReg b v).b = s.b := rfl
@[simp] theorem State.bitReg_c (b : BitVec 3) (v : Byte) : (s.bitReg b v).c = s.c := rfl
@[simp] theorem State.bitReg_d (b : BitVec 3) (v : Byte) : (s.bitReg b v).d = s.d := rfl
@[simp] theorem State.bitReg_e (b : BitVec 3) (v : Byte) : (s.bitReg b v).e = s.e := rfl
@[simp] theorem State.bitReg_h (b : BitVec 3) (v : Byte) : (s.bitReg b v).h = s.h := rfl
@[simp] theorem State.bitReg_l (b : BitVec 3) (v : Byte) : (s.bitReg b v).l = s.l := rfl
@[simp] theorem State.bitReg_a' (b : BitVec 3) (v : Byte) : (s.bitReg b v).a' = s.a' := rfl
@[simp] theorem State.bitReg_f' (b : BitVec 3) (v : Byte) : (s.bitReg b v).f' = s.f' := rfl
@[simp] theorem State.bitReg_b' (b : BitVec 3) (v : Byte) : (s.bitReg b v).b' = s.b' := rfl
@[simp] theorem State.bitReg_c' (b : BitVec 3) (v : Byte) : (s.bitReg b v).c' = s.c' := rfl
@[simp] theorem State.bitReg_d' (b : BitVec 3) (v : Byte) : (s.bitReg b v).d' = s.d' := rfl
@[simp] theorem State.bitReg_e' (b : BitVec 3) (v : Byte) : (s.bitReg b v).e' = s.e' := rfl
@[simp] theorem State.bitReg_h' (b : BitVec 3) (v : Byte) : (s.bitReg b v).h' = s.h' := rfl
@[simp] theorem State.bitReg_l' (b : BitVec 3) (v : Byte) : (s.bitReg b v).l' = s.l' := rfl
@[simp] theorem State.bitReg_ix (b : BitVec 3) (v : Byte) : (s.bitReg b v).ix = s.ix := rfl
@[simp] theorem State.bitReg_iy (b : BitVec 3) (v : Byte) : (s.bitReg b v).iy = s.iy := rfl
@[simp] theorem State.bitReg_sp (b : BitVec 3) (v : Byte) : (s.bitReg b v).sp = s.sp := rfl
@[simp] theorem State.bitReg_pc (b : BitVec 3) (v : Byte) : (s.bitReg b v).pc = s.pc := rfl
@[simp] theorem State.bitReg_i (b : BitVec 3) (v : Byte) : (s.bitReg b v).i = s.i := rfl
@[simp] theorem State.bitReg_r (b : BitVec 3) (v : Byte) : (s.bitReg b v).r = s.r := rfl
@[simp] theorem State.bitReg_iff1 (b : BitVec 3) (v : Byte) : (s.bitReg b v).iff1 = s.iff1 := rfl
@[simp] theorem State.bitReg_iff2 (b : BitVec 3) (v : Byte) : (s.bitReg b v).iff2 = s.iff2 := rfl
@[simp] theorem State.bitReg_im (b : BitVec 3) (v : Byte) : (s.bitReg b v).im = s.im := rfl
@[simp] theorem State.bitReg_halted (b : BitVec 3) (v : Byte) : (s.bitReg b v).halted = s.halted := rfl
@[simp] theorem State.bitReg_eiShadow (b : BitVec 3) (v : Byte) : (s.bitReg b v).eiShadow = s.eiShadow := rfl
@[simp] theorem State.bitReg_nmiLatch (b : BitVec 3) (v : Byte) : (s.bitReg b v).nmiLatch = s.nmiLatch := rfl
@[simp] theorem State.bitReg_clock (b : BitVec 3) (v : Byte) : (s.bitReg b v).clock = s.clock := rfl
@[simp] theorem State.bitReg_mem (b : BitVec 3) (v : Byte) : (s.bitReg b v).mem = s.mem := rfl
@[simp] theorem State.bitReg_ioLog (b : BitVec 3) (v : Byte) : (s.bitReg b v).ioLog = s.ioLog := rfl
@[simp] theorem State.bitReg_dbg (b : BitVec 3) (v : Byte) : (s.bitReg b v).dbg = s.dbg := rfl
@[simp] theorem State.bitReg_faulted (b : BitVec 3) (v : Byte) : (s.bitReg b v).faulted = s.faulted := rfl
@[simp] theorem State.bitReg_refused (b : BitVec 3) (v : Byte) : (s.bitReg b v).refused = s.refused := rfl
@[simp] theorem State.bitReg_unset (b : BitVec 3) (v : Byte) : (s.bitReg b v).unset = s.unset := rfl
@[simp] theorem State.bitReg_cfg (b : BitVec 3) (v : Byte) : (s.bitReg b v).cfg = s.cfg := rfl
@[simp] theorem State.bitReg_env (b : BitVec 3) (v : Byte) : (s.bitReg b v).env = s.env := rfl
@[simp] theorem State.bitReg_draws (b : BitVec 3) (v : Byte) : (s.bitReg b v).draws = s.draws + 1 := rfl

/-! ### `bitHl` -/

@[simp] theorem State.bitHl_a (b : BitVec 3) (v : Byte) : (s.bitHl b v).a = s.a := rfl
@[simp] theorem State.bitHl_b (b : BitVec 3) (v : Byte) : (s.bitHl b v).b = s.b := rfl
@[simp] theorem State.bitHl_c (b : BitVec 3) (v : Byte) : (s.bitHl b v).c = s.c := rfl
@[simp] theorem State.bitHl_d (b : BitVec 3) (v : Byte) : (s.bitHl b v).d = s.d := rfl
@[simp] theorem State.bitHl_e (b : BitVec 3) (v : Byte) : (s.bitHl b v).e = s.e := rfl
@[simp] theorem State.bitHl_h (b : BitVec 3) (v : Byte) : (s.bitHl b v).h = s.h := rfl
@[simp] theorem State.bitHl_l (b : BitVec 3) (v : Byte) : (s.bitHl b v).l = s.l := rfl
@[simp] theorem State.bitHl_a' (b : BitVec 3) (v : Byte) : (s.bitHl b v).a' = s.a' := rfl
@[simp] theorem State.bitHl_f' (b : BitVec 3) (v : Byte) : (s.bitHl b v).f' = s.f' := rfl
@[simp] theorem State.bitHl_b' (b : BitVec 3) (v : Byte) : (s.bitHl b v).b' = s.b' := rfl
@[simp] theorem State.bitHl_c' (b : BitVec 3) (v : Byte) : (s.bitHl b v).c' = s.c' := rfl
@[simp] theorem State.bitHl_d' (b : BitVec 3) (v : Byte) : (s.bitHl b v).d' = s.d' := rfl
@[simp] theorem State.bitHl_e' (b : BitVec 3) (v : Byte) : (s.bitHl b v).e' = s.e' := rfl
@[simp] theorem State.bitHl_h' (b : BitVec 3) (v : Byte) : (s.bitHl b v).h' = s.h' := rfl
@[simp] theorem State.bitHl_l' (b : BitVec 3) (v : Byte) : (s.bitHl b v).l' = s.l' := rfl
@[simp] theorem State.bitHl_ix (b : BitVec 3) (v : Byte) : (s.bitHl b v).ix = s.ix := rfl
@[simp] theorem State.bitHl_iy (b : BitVec 3) (v : Byte) : (s.bitHl b v).iy = s.iy := rfl
@[simp] theorem State.bitHl_sp (b : BitVec 3) (v : Byte) : (s.bitHl b v).sp = s.sp := rfl
@[simp] theorem State.bitHl_pc (b : BitVec 3) (v : Byte) : (s.bitHl b v).pc = s.pc := rfl
@[simp] theorem State.bitHl_i (b : BitVec 3) (v : Byte) : (s.bitHl b v).i = s.i := rfl
@[simp] theorem State.bitHl_r (b : BitVec 3) (v : Byte) : (s.bitHl b v).r = s.r := rfl
@[simp] theorem State.bitHl_iff1 (b : BitVec 3) (v : Byte) : (s.bitHl b v).iff1 = s.iff1 := rfl
@[simp] theorem State.bitHl_iff2 (b : BitVec 3) (v : Byte) : (s.bitHl b v).iff2 = s.iff2 := rfl
@[simp] theorem State.bitHl_im (b : BitVec 3) (v : Byte) : (s.bitHl b v).im = s.im := rfl
@[simp] theorem State.bitHl_halted (b : BitVec 3) (v : Byte) : (s.bitHl b v).halted = s.halted := rfl
@[simp] theorem State.bitHl_eiShadow (b : BitVec 3) (v : Byte) : (s.bitHl b v).eiShadow = s.eiShadow := rfl
@[simp] theorem State.bitHl_nmiLatch (b : BitVec 3) (v : Byte) : (s.bitHl b v).nmiLatch = s.nmiLatch := rfl
@[simp] theorem State.bitHl_clock (b : BitVec 3) (v : Byte) : (s.bitHl b v).clock = s.clock := rfl
@[simp] theorem State.bitHl_mem (b : BitVec 3) (v : Byte) : (s.bitHl b v).mem = s.mem := rfl
@[simp] theorem State.bitHl_ioLog (b : BitVec 3) (v : Byte) : (s.bitHl b v).ioLog = s.ioLog := rfl
@[simp] theorem State.bitHl_dbg (b : BitVec 3) (v : Byte) : (s.bitHl b v).dbg = s.dbg := rfl
@[simp] theorem State.bitHl_faulted (b : BitVec 3) (v : Byte) : (s.bitHl b v).faulted = s.faulted := rfl
@[simp] theorem State.bitHl_refused (b : BitVec 3) (v : Byte) : (s.bitHl b v).refused = s.refused := rfl
@[simp] theorem State.bitHl_unset (b : BitVec 3) (v : Byte) : (s.bitHl b v).unset = s.unset := rfl
@[simp] theorem State.bitHl_cfg (b : BitVec 3) (v : Byte) : (s.bitHl b v).cfg = s.cfg := rfl
@[simp] theorem State.bitHl_env (b : BitVec 3) (v : Byte) : (s.bitHl b v).env = s.env := rfl
@[simp] theorem State.bitHl_draws (b : BitVec 3) (v : Byte) : (s.bitHl b v).draws = s.draws + 1 := rfl

/-! ### `bitIdx` -/

@[simp] theorem State.bitIdx_a (b : BitVec 3) (v : Byte) (p : Word) : (s.bitIdx b v p).a = s.a := rfl
@[simp] theorem State.bitIdx_b (b : BitVec 3) (v : Byte) (p : Word) : (s.bitIdx b v p).b = s.b := rfl
@[simp] theorem State.bitIdx_c (b : BitVec 3) (v : Byte) (p : Word) : (s.bitIdx b v p).c = s.c := rfl
@[simp] theorem State.bitIdx_d (b : BitVec 3) (v : Byte) (p : Word) : (s.bitIdx b v p).d = s.d := rfl
@[simp] theorem State.bitIdx_e (b : BitVec 3) (v : Byte) (p : Word) : (s.bitIdx b v p).e = s.e := rfl
@[simp] theorem State.bitIdx_h (b : BitVec 3) (v : Byte) (p : Word) : (s.bitIdx b v p).h = s.h := rfl
@[simp] theorem State.bitIdx_l (b : BitVec 3) (v : Byte) (p : Word) : (s.bitIdx b v p).l = s.l := rfl
@[simp] theorem State.bitIdx_a' (b : BitVec 3) (v : Byte) (p : Word) : (s.bitIdx b v p).a' = s.a' := rfl
@[simp] theorem State.bitIdx_f' (b : BitVec 3) (v : Byte) (p : Word) : (s.bitIdx b v p).f' = s.f' := rfl
@[simp] theorem State.bitIdx_b' (b : BitVec 3) (v : Byte) (p : Word) : (s.bitIdx b v p).b' = s.b' := rfl
@[simp] theorem State.bitIdx_c' (b : BitVec 3) (v : Byte) (p : Word) : (s.bitIdx b v p).c' = s.c' := rfl
@[simp] theorem State.bitIdx_d' (b : BitVec 3) (v : Byte) (p : Word) : (s.bitIdx b v p).d' = s.d' := rfl
@[simp] theorem State.bitIdx_e' (b : BitVec 3) (v : Byte) (p : Word) : (s.bitIdx b v p).e' = s.e' := rfl
@[simp] theorem State.bitIdx_h' (b : BitVec 3) (v : Byte) (p : Word) : (s.bitIdx b v p).h' = s.h' := rfl
@[simp] theorem State.bitIdx_l' (b : BitVec 3) (v : Byte) (p : Word) : (s.bitIdx b v p).l' = s.l' := rfl
@[simp] theorem State.bitIdx_ix (b : BitVec 3) (v : Byte) (p : Word) : (s.bitIdx b v p).ix = s.ix := rfl
@[simp] theorem State.bitIdx_iy (b : BitVec 3) (v : Byte) (p : Word) : (s.bitIdx b v p).iy = s.iy := rfl
@[simp] theorem State.bitIdx_sp (b : BitVec 3) (v : Byte) (p : Word) : (s.bitIdx b v p).sp = s.sp := rfl
@[simp] theorem State.bitIdx_pc (b : BitVec 3) (v : Byte) (p : Word) : (s.bitIdx b v p).pc = s.pc := rfl
@[simp] theorem State.bitIdx_i (b : BitVec 3) (v : Byte) (p : Word) : (s.bitIdx b v p).i = s.i := rfl
@[simp] theorem State.bitIdx_r (b : BitVec 3) (v : Byte) (p : Word) : (s.bitIdx b v p).r = s.r := rfl
@[simp] theorem State.bitIdx_iff1 (b : BitVec 3) (v : Byte) (p : Word) : (s.bitIdx b v p).iff1 = s.iff1 := rfl
@[simp] theorem State.bitIdx_iff2 (b : BitVec 3) (v : Byte) (p : Word) : (s.bitIdx b v p).iff2 = s.iff2 := rfl
@[simp] theorem State.bitIdx_im (b : BitVec 3) (v : Byte) (p : Word) : (s.bitIdx b v p).im = s.im := rfl
@[simp] theorem State.bitIdx_halted (b : BitVec 3) (v : Byte) (p : Word) : (s.bitIdx b v p).halted = s.halted := rfl
@[simp] theorem State.bitIdx_eiShadow (b : BitVec 3) (v : Byte) (p : Word) : (s.bitIdx b v p).eiShadow = s.eiShadow := rfl
@[simp] theorem State.bitIdx_nmiLatch (b : BitVec 3) (v : Byte) (p : Word) : (s.bitIdx b v p).nmiLatch = s.nmiLatch := rfl
@[simp] theorem State.bitIdx_clock (b : BitVec 3) (v : Byte) (p : Word) : (s.bitIdx b v p).clock = s.clock := rfl
@[simp] theorem State.bitIdx_mem (b : BitVec 3) (v : Byte) (p : Word) : (s.bitIdx b v p).mem = s.mem := rfl
@[simp] theorem State.bitIdx_ioLog (b : BitVec 3) (v : Byte) (p : Word) : (s.bitIdx b v p).ioLog = s.ioLog := rfl
@[simp] theorem State.bitIdx_dbg (b : BitVec 3) (v : Byte) (p : Word) : (s.bitIdx b v p).dbg = s.dbg := rfl
@[simp] theorem State.bitIdx_faulted (b : BitVec 3) (v : Byte) (p : Word) : (s.bitIdx b v p).faulted = s.faulted := rfl
@[simp] theorem State.bitIdx_refused (b : BitVec 3) (v : Byte) (p : Word) : (s.bitIdx b v p).refused = s.refused := rfl
@[simp] theorem State.bitIdx_unset (b : BitVec 3) (v : Byte) (p : Word) : (s.bitIdx b v p).unset = s.unset := rfl
@[simp] theorem State.bitIdx_cfg (b : BitVec 3) (v : Byte) (p : Word) : (s.bitIdx b v p).cfg = s.cfg := rfl
@[simp] theorem State.bitIdx_env (b : BitVec 3) (v : Byte) (p : Word) : (s.bitIdx b v p).env = s.env := rfl
@[simp] theorem State.bitIdx_draws (b : BitVec 3) (v : Byte) (p : Word) : (s.bitIdx b v p).draws = s.draws + 1 := rfl

/-! ### `fetch` -/

@[simp] theorem State.fetch_a (n : Nat) (m : Nat) : (s.fetch n m).a = s.a := rfl
@[simp] theorem State.fetch_f (n : Nat) (m : Nat) : (s.fetch n m).f = s.f := rfl
@[simp] theorem State.fetch_b (n : Nat) (m : Nat) : (s.fetch n m).b = s.b := rfl
@[simp] theorem State.fetch_c (n : Nat) (m : Nat) : (s.fetch n m).c = s.c := rfl
@[simp] theorem State.fetch_d (n : Nat) (m : Nat) : (s.fetch n m).d = s.d := rfl
@[simp] theorem State.fetch_e (n : Nat) (m : Nat) : (s.fetch n m).e = s.e := rfl
@[simp] theorem State.fetch_h (n : Nat) (m : Nat) : (s.fetch n m).h = s.h := rfl
@[simp] theorem State.fetch_l (n : Nat) (m : Nat) : (s.fetch n m).l = s.l := rfl
@[simp] theorem State.fetch_a' (n : Nat) (m : Nat) : (s.fetch n m).a' = s.a' := rfl
@[simp] theorem State.fetch_f' (n : Nat) (m : Nat) : (s.fetch n m).f' = s.f' := rfl
@[simp] theorem State.fetch_b' (n : Nat) (m : Nat) : (s.fetch n m).b' = s.b' := rfl
@[simp] theorem State.fetch_c' (n : Nat) (m : Nat) : (s.fetch n m).c' = s.c' := rfl
@[simp] theorem State.fetch_d' (n : Nat) (m : Nat) : (s.fetch n m).d' = s.d' := rfl
@[simp] theorem State.fetch_e' (n : Nat) (m : Nat) : (s.fetch n m).e' = s.e' := rfl
@[simp] theorem State.fetch_h' (n : Nat) (m : Nat) : (s.fetch n m).h' = s.h' := rfl
@[simp] theorem State.fetch_l' (n : Nat) (m : Nat) : (s.fetch n m).l' = s.l' := rfl
@[simp] theorem State.fetch_ix (n : Nat) (m : Nat) : (s.fetch n m).ix = s.ix := rfl
@[simp] theorem State.fetch_iy (n : Nat) (m : Nat) : (s.fetch n m).iy = s.iy := rfl
@[simp] theorem State.fetch_sp (n : Nat) (m : Nat) : (s.fetch n m).sp = s.sp := rfl
@[simp] theorem State.fetch_pc (n : Nat) (m : Nat) : (s.fetch n m).pc = s.pc + BitVec.ofNat 16 n := rfl
@[simp] theorem State.fetch_i (n : Nat) (m : Nat) : (s.fetch n m).i = s.i := rfl
@[simp] theorem State.fetch_r (n : Nat) (m : Nat) : (s.fetch n m).r = incRefresh m s.r := rfl
@[simp] theorem State.fetch_iff1 (n : Nat) (m : Nat) : (s.fetch n m).iff1 = s.iff1 := rfl
@[simp] theorem State.fetch_iff2 (n : Nat) (m : Nat) : (s.fetch n m).iff2 = s.iff2 := rfl
@[simp] theorem State.fetch_im (n : Nat) (m : Nat) : (s.fetch n m).im = s.im := rfl
@[simp] theorem State.fetch_halted (n : Nat) (m : Nat) : (s.fetch n m).halted = s.halted := rfl
@[simp] theorem State.fetch_eiShadow (n : Nat) (m : Nat) : (s.fetch n m).eiShadow = s.eiShadow := rfl
@[simp] theorem State.fetch_nmiLatch (n : Nat) (m : Nat) : (s.fetch n m).nmiLatch = s.nmiLatch := rfl
@[simp] theorem State.fetch_clock (n : Nat) (m : Nat) : (s.fetch n m).clock = s.clock := rfl
@[simp] theorem State.fetch_mem (n : Nat) (m : Nat) : (s.fetch n m).mem = s.mem := rfl
@[simp] theorem State.fetch_ioLog (n : Nat) (m : Nat) : (s.fetch n m).ioLog = s.ioLog := rfl
@[simp] theorem State.fetch_dbg (n : Nat) (m : Nat) : (s.fetch n m).dbg = s.dbg := rfl
@[simp] theorem State.fetch_faulted (n : Nat) (m : Nat) : (s.fetch n m).faulted = s.faulted := rfl
@[simp] theorem State.fetch_refused (n : Nat) (m : Nat) : (s.fetch n m).refused = s.refused := rfl
@[simp] theorem State.fetch_unset (n : Nat) (m : Nat) : (s.fetch n m).unset = s.unset := rfl
@[simp] theorem State.fetch_cfg (n : Nat) (m : Nat) : (s.fetch n m).cfg = s.cfg := rfl
@[simp] theorem State.fetch_env (n : Nat) (m : Nat) : (s.fetch n m).env = s.env := rfl
@[simp] theorem State.fetch_draws (n : Nat) (m : Nat) : (s.fetch n m).draws = s.draws := rfl

/-! ### `returnFromInterrupt` -/

@[simp] theorem State.returnFromInterrupt_a : (s.returnFromInterrupt).a = s.a := rfl
@[simp] theorem State.returnFromInterrupt_f : (s.returnFromInterrupt).f = s.f := rfl
@[simp] theorem State.returnFromInterrupt_b : (s.returnFromInterrupt).b = s.b := rfl
@[simp] theorem State.returnFromInterrupt_c : (s.returnFromInterrupt).c = s.c := rfl
@[simp] theorem State.returnFromInterrupt_d : (s.returnFromInterrupt).d = s.d := rfl
@[simp] theorem State.returnFromInterrupt_e : (s.returnFromInterrupt).e = s.e := rfl
@[simp] theorem State.returnFromInterrupt_h : (s.returnFromInterrupt).h = s.h := rfl
@[simp] theorem State.returnFromInterrupt_l : (s.returnFromInterrupt).l = s.l := rfl
@[simp] theorem State.returnFromInterrupt_a' : (s.returnFromInterrupt).a' = s.a' := rfl
@[simp] theorem State.returnFromInterrupt_f' : (s.returnFromInterrupt).f' = s.f' := rfl
@[simp] theorem State.returnFromInterrupt_b' : (s.returnFromInterrupt).b' = s.b' := rfl
@[simp] theorem State.returnFromInterrupt_c' : (s.returnFromInterrupt).c' = s.c' := rfl
@[simp] theorem State.returnFromInterrupt_d' : (s.returnFromInterrupt).d' = s.d' := rfl
@[simp] theorem State.returnFromInterrupt_e' : (s.returnFromInterrupt).e' = s.e' := rfl
@[simp] theorem State.returnFromInterrupt_h' : (s.returnFromInterrupt).h' = s.h' := rfl
@[simp] theorem State.returnFromInterrupt_l' : (s.returnFromInterrupt).l' = s.l' := rfl
@[simp] theorem State.returnFromInterrupt_ix : (s.returnFromInterrupt).ix = s.ix := rfl
@[simp] theorem State.returnFromInterrupt_iy : (s.returnFromInterrupt).iy = s.iy := rfl
@[simp] theorem State.returnFromInterrupt_sp : (s.returnFromInterrupt).sp = s.sp + 2 := rfl
@[simp] theorem State.returnFromInterrupt_pc : (s.returnFromInterrupt).pc = s.popped := rfl
@[simp] theorem State.returnFromInterrupt_i : (s.returnFromInterrupt).i = s.i := rfl
@[simp] theorem State.returnFromInterrupt_r : (s.returnFromInterrupt).r = s.r := rfl
@[simp] theorem State.returnFromInterrupt_iff1 : (s.returnFromInterrupt).iff1 = s.iff2 := rfl
@[simp] theorem State.returnFromInterrupt_iff2 : (s.returnFromInterrupt).iff2 = s.iff2 := rfl
@[simp] theorem State.returnFromInterrupt_im : (s.returnFromInterrupt).im = s.im := rfl
@[simp] theorem State.returnFromInterrupt_halted : (s.returnFromInterrupt).halted = s.halted := rfl
@[simp] theorem State.returnFromInterrupt_eiShadow : (s.returnFromInterrupt).eiShadow = s.eiShadow := rfl
@[simp] theorem State.returnFromInterrupt_nmiLatch : (s.returnFromInterrupt).nmiLatch = s.nmiLatch := rfl
@[simp] theorem State.returnFromInterrupt_clock : (s.returnFromInterrupt).clock = s.clock := rfl
@[simp] theorem State.returnFromInterrupt_mem : (s.returnFromInterrupt).mem = s.mem := rfl
@[simp] theorem State.returnFromInterrupt_ioLog : (s.returnFromInterrupt).ioLog = s.ioLog := rfl
@[simp] theorem State.returnFromInterrupt_dbg : (s.returnFromInterrupt).dbg = s.dbg := rfl
@[simp] theorem State.returnFromInterrupt_faulted : (s.returnFromInterrupt).faulted = s.faulted := rfl
@[simp] theorem State.returnFromInterrupt_refused : (s.returnFromInterrupt).refused = s.refused := rfl
@[simp] theorem State.returnFromInterrupt_unset : (s.returnFromInterrupt).unset = s.unset := rfl
@[simp] theorem State.returnFromInterrupt_cfg : (s.returnFromInterrupt).cfg = s.cfg := rfl
@[simp] theorem State.returnFromInterrupt_env : (s.returnFromInterrupt).env = s.env := rfl
@[simp] theorem State.returnFromInterrupt_draws : (s.returnFromInterrupt).draws = s.draws := rfl

/-! ### `call` -/

@[simp] theorem State.call_a (p : Word) : (s.call p).a = s.a := by simp [State.call]
@[simp] theorem State.call_f (p : Word) : (s.call p).f = s.f := by simp [State.call]
@[simp] theorem State.call_b (p : Word) : (s.call p).b = s.b := by simp [State.call]
@[simp] theorem State.call_c (p : Word) : (s.call p).c = s.c := by simp [State.call]
@[simp] theorem State.call_d (p : Word) : (s.call p).d = s.d := by simp [State.call]
@[simp] theorem State.call_e (p : Word) : (s.call p).e = s.e := by simp [State.call]
@[simp] theorem State.call_h (p : Word) : (s.call p).h = s.h := by simp [State.call]
@[simp] theorem State.call_l (p : Word) : (s.call p).l = s.l := by simp [State.call]
@[simp] theorem State.call_a' (p : Word) : (s.call p).a' = s.a' := by simp [State.call]
@[simp] theorem State.call_f' (p : Word) : (s.call p).f' = s.f' := by simp [State.call]
@[simp] theorem State.call_b' (p : Word) : (s.call p).b' = s.b' := by simp [State.call]
@[simp] theorem State.call_c' (p : Word) : (s.call p).c' = s.c' := by simp [State.call]
@[simp] theorem State.call_d' (p : Word) : (s.call p).d' = s.d' := by simp [State.call]
@[simp] theorem State.call_e' (p : Word) : (s.call p).e' = s.e' := by simp [State.call]
@[simp] theorem State.call_h' (p : Word) : (s.call p).h' = s.h' := by simp [State.call]
@[simp] theorem State.call_l' (p : Word) : (s.call p).l' = s.l' := by simp [State.call]
@[simp] theorem State.call_ix (p : Word) : (s.call p).ix = s.ix := by simp [State.call]
@[simp] theorem State.call_iy (p : Word) : (s.call p).iy = s.iy := by simp [State.call]
@[simp] theorem State.call_sp (p : Word) : (s.call p).sp = s.sp - 1 - 1 := by simp [State.call]
@[simp] theorem State.call_pc (p : Word) : (s.call p).pc = p := by simp [State.call]
@[simp] theorem State.call_i (p : Word) : (s.call p).i = s.i := by simp [State.call]
@[simp] theorem State.call_r (p : Word) : (s.call p).r = s.r := by simp [State.call]
@[simp] theorem State.call_iff1 (p : Word) : (s.call p).iff1 = s.iff1 := by simp [State.call]
@[simp] theorem State.call_iff2 (p : Word) : (s.call p).iff2 = s.iff2 := by simp [State.call]
@[simp] theorem State.call_im (p : Word) : (s.call p).im = s.im := by simp [State.call]
@[simp] theorem State.call_halted (p : Word) : (s.call p).halted = s.halted := by simp [State.call]
@[simp] theorem State.call_eiShadow (p : Word) : (s.call p).eiShadow = s.eiShadow := by simp [State.call]
@[simp] theorem State.call_nmiLatch (p : Word) : (s.call p).nmiLatch = s.nmiLatch := by simp [State.call]
@[simp] theorem State.call_clock (p : Word) : (s.call p).clock = s.clock := by simp [State.call]
@[simp] theorem State.call_ioLog (p : Word) : (s.call p).ioLog = s.ioLog := by simp [State.call]
@[simp] theorem State.call_dbg (p : Word) : (s.call p).dbg = s.dbg := by simp [State.call]
@[simp] theorem State.call_faulted (p : Word) : (s.call p).faulted = s.faulted := by simp [State.call]
@[simp] theorem State.call_refused (p : Word) : (s.call p).refused = s.refused := by simp [State.call]
@[simp] theorem State.call_unset (p : Word) : (s.call p).unset = s.unset := by simp [State.call]
@[simp] theorem State.call_cfg (p : Word) : (s.call p).cfg = s.cfg := by simp [State.call]
@[simp] theorem State.call_env (p : Word) : (s.call p).env = s.env := by simp [State.call]
@[simp] theorem State.call_draws (p : Word) : (s.call p).draws = s.draws := by simp [State.call]

/-! ### `ret` -/

@[simp] theorem State.ret_a : (s.ret).a = s.a := rfl
@[simp] theorem State.ret_f : (s.ret).f = s.f := rfl
@[simp] theorem State.ret_b : (s.ret).b = s.b := rfl
@[simp] theorem State.ret_c : (s.ret).c = s.c := rfl
@[simp] theorem State.ret_d : (s.ret).d = s.d := rfl
@[simp] theorem State.ret_e : (s.ret).e = s.e := rfl
@[simp] theorem State.ret_h : (s.ret).h = s.h := rfl
@[simp] theorem State.ret_l : (s.ret).l = s.l := rfl
@[simp] theorem State.ret_a' : (s.ret).a' = s.a' := rfl
@[simp] theorem State.ret_f' : (s.ret).f' = s.f' := rfl
@[simp] theorem State.ret_b' : (s.ret).b' = s.b' := rfl
@[simp] theorem State.ret_c' : (s.ret).c' = s.c' := rfl
@[simp] theorem State.ret_d' : (s.ret).d' = s.d' := rfl
@[simp] theorem State.ret_e' : (s.ret).e' = s.e' := rfl
@[simp] theorem State.ret_h' : (s.ret).h' = s.h' := rfl
@[simp] theorem State.ret_l' : (s.ret).l' = s.l' := rfl
@[simp] theorem State.ret_ix : (s.ret).ix = s.ix := rfl
@[simp] theorem State.ret_iy : (s.ret).iy = s.iy := rfl
@[simp] theorem State.ret_sp : (s.ret).sp = s.sp + 2 := rfl
@[simp] theorem State.ret_pc : (s.ret).pc = s.popped := rfl
@[simp] theorem State.ret_i : (s.ret).i = s.i := rfl
@[simp] theorem State.ret_r : (s.ret).r = s.r := rfl
@[simp] theorem State.ret_iff1 : (s.ret).iff1 = s.iff1 := rfl
@[simp] theorem State.ret_iff2 : (s.ret).iff2 = s.iff2 := rfl
@[simp] theorem State.ret_im : (s.ret).im = s.im := rfl
@[simp] theorem State.ret_halted : (s.ret).halted = s.halted := rfl
@[simp] theorem State.ret_eiShadow : (s.ret).eiShadow = s.eiShadow := rfl
@[simp] theorem State.ret_nmiLatch : (s.ret).nmiLatch = s.nmiLatch := rfl
@[simp] theorem State.ret_clock : (s.ret).clock = s.clock := rfl
@[simp] theorem State.ret_mem : (s.ret).mem = s.mem := rfl
@[simp] theorem State.ret_ioLog : (s.ret).ioLog = s.ioLog := rfl
@[simp] theorem State.ret_dbg : (s.ret).dbg = s.dbg := rfl
@[simp] theorem State.ret_faulted : (s.ret).faulted = s.faulted := rfl
@[simp] theorem State.ret_refused : (s.ret).refused = s.refused := rfl
@[simp] theorem State.ret_unset : (s.ret).unset = s.unset := rfl
@[simp] theorem State.ret_cfg : (s.ret).cfg = s.cfg := rfl
@[simp] theorem State.ret_env : (s.ret).env = s.env := rfl
@[simp] theorem State.ret_draws : (s.ret).draws = s.draws := rfl

/-! ### `repeatBlock` -/

@[simp] theorem State.repeatBlock_a (g : Byte) : (s.repeatBlock g).a = s.a := rfl
@[simp] theorem State.repeatBlock_b (g : Byte) : (s.repeatBlock g).b = s.b := rfl
@[simp] theorem State.repeatBlock_c (g : Byte) : (s.repeatBlock g).c = s.c := rfl
@[simp] theorem State.repeatBlock_d (g : Byte) : (s.repeatBlock g).d = s.d := rfl
@[simp] theorem State.repeatBlock_e (g : Byte) : (s.repeatBlock g).e = s.e := rfl
@[simp] theorem State.repeatBlock_h (g : Byte) : (s.repeatBlock g).h = s.h := rfl
@[simp] theorem State.repeatBlock_l (g : Byte) : (s.repeatBlock g).l = s.l := rfl
@[simp] theorem State.repeatBlock_a' (g : Byte) : (s.repeatBlock g).a' = s.a' := rfl
@[simp] theorem State.repeatBlock_f' (g : Byte) : (s.repeatBlock g).f' = s.f' := rfl
@[simp] theorem State.repeatBlock_b' (g : Byte) : (s.repeatBlock g).b' = s.b' := rfl
@[simp] theorem State.repeatBlock_c' (g : Byte) : (s.repeatBlock g).c' = s.c' := rfl
@[simp] theorem State.repeatBlock_d' (g : Byte) : (s.repeatBlock g).d' = s.d' := rfl
@[simp] theorem State.repeatBlock_e' (g : Byte) : (s.repeatBlock g).e' = s.e' := rfl
@[simp] theorem State.repeatBlock_h' (g : Byte) : (s.repeatBlock g).h' = s.h' := rfl
@[simp] theorem State.repeatBlock_l' (g : Byte) : (s.repeatBlock g).l' = s.l' := rfl
@[simp] theorem State.repeatBlock_ix (g : Byte) : (s.repeatBlock g).ix = s.ix := rfl
@[simp] theorem State.repeatBlock_iy (g : Byte) : (s.repeatBlock g).iy = s.iy := rfl
@[simp] theorem State.repeatBlock_sp (g : Byte) : (s.repeatBlock g).sp = s.sp := rfl
@[simp] theorem State.repeatBlock_pc (g : Byte) : (s.repeatBlock g).pc = s.pc - 2 := rfl
@[simp] theorem State.repeatBlock_i (g : Byte) : (s.repeatBlock g).i = s.i := rfl
@[simp] theorem State.repeatBlock_r (g : Byte) : (s.repeatBlock g).r = s.r := rfl
@[simp] theorem State.repeatBlock_iff1 (g : Byte) : (s.repeatBlock g).iff1 = s.iff1 := rfl
@[simp] theorem State.repeatBlock_iff2 (g : Byte) : (s.repeatBlock g).iff2 = s.iff2 := rfl
@[simp] theorem State.repeatBlock_im (g : Byte) : (s.repeatBlock g).im = s.im := rfl
@[simp] theorem State.repeatBlock_halted (g : Byte) : (s.repeatBlock g).halted = s.halted := rfl
@[simp] theorem State.repeatBlock_eiShadow (g : Byte) : (s.repeatBlock g).eiShadow = s.eiShadow := rfl
@[simp] theorem State.repeatBlock_nmiLatch (g : Byte) : (s.repeatBlock g).nmiLatch = s.nmiLatch := rfl
@[simp] theorem State.repeatBlock_clock (g : Byte) : (s.repeatBlock g).clock = s.clock := rfl
@[simp] theorem State.repeatBlock_mem (g : Byte) : (s.repeatBlock g).mem = s.mem := rfl
@[simp] theorem State.repeatBlock_ioLog (g : Byte) : (s.repeatBlock g).ioLog = s.ioLog := rfl
@[simp] theorem State.repeatBlock_dbg (g : Byte) : (s.repeatBlock g).dbg = s.dbg := rfl
@[simp] theorem State.repeatBlock_faulted (g : Byte) : (s.repeatBlock g).faulted = s.faulted := rfl
@[simp] theorem State.repeatBlock_refused (g : Byte) : (s.repeatBlock g).refused = s.refused := rfl
@[simp] theorem State.repeatBlock_unset (g : Byte) : (s.repeatBlock g).unset = s.unset := rfl
@[simp] theorem State.repeatBlock_cfg (g : Byte) : (s.repeatBlock g).cfg = s.cfg := rfl
@[simp] theorem State.repeatBlock_env (g : Byte) : (s.repeatBlock g).env = s.env := rfl
@[simp] theorem State.repeatBlock_draws (g : Byte) : (s.repeatBlock g).draws = s.draws + 1 := rfl

/-! ### `haltTick` -/

@[simp] theorem State.haltTick_a : (s.haltTick).a = s.a := rfl
@[simp] theorem State.haltTick_f : (s.haltTick).f = s.f := rfl
@[simp] theorem State.haltTick_b : (s.haltTick).b = s.b := rfl
@[simp] theorem State.haltTick_c : (s.haltTick).c = s.c := rfl
@[simp] theorem State.haltTick_d : (s.haltTick).d = s.d := rfl
@[simp] theorem State.haltTick_e : (s.haltTick).e = s.e := rfl
@[simp] theorem State.haltTick_h : (s.haltTick).h = s.h := rfl
@[simp] theorem State.haltTick_l : (s.haltTick).l = s.l := rfl
@[simp] theorem State.haltTick_a' : (s.haltTick).a' = s.a' := rfl
@[simp] theorem State.haltTick_f' : (s.haltTick).f' = s.f' := rfl
@[simp] theorem State.haltTick_b' : (s.haltTick).b' = s.b' := rfl
@[simp] theorem State.haltTick_c' : (s.haltTick).c' = s.c' := rfl
@[simp] theorem State.haltTick_d' : (s.haltTick).d' = s.d' := rfl
@[simp] theorem State.haltTick_e' : (s.haltTick).e' = s.e' := rfl
@[simp] theorem State.haltTick_h' : (s.haltTick).h' = s.h' := rfl
@[simp] theorem State.haltTick_l' : (s.haltTick).l' = s.l' := rfl
@[simp] theorem State.haltTick_ix : (s.haltTick).ix = s.ix := rfl
@[simp] theorem State.haltTick_iy : (s.haltTick).iy = s.iy := rfl
@[simp] theorem State.haltTick_sp : (s.haltTick).sp = s.sp := rfl
@[simp] theorem State.haltTick_pc : (s.haltTick).pc = s.pc := rfl
@[simp] theorem State.haltTick_i : (s.haltTick).i = s.i := rfl
@[simp] theorem State.haltTick_r : (s.haltTick).r = incRefresh 1 s.r := rfl
@[simp] theorem State.haltTick_iff1 : (s.haltTick).iff1 = s.iff1 := rfl
@[simp] theorem State.haltTick_iff2 : (s.haltTick).iff2 = s.iff2 := rfl
@[simp] theorem State.haltTick_im : (s.haltTick).im = s.im := rfl
@[simp] theorem State.haltTick_halted : (s.haltTick).halted = s.halted := rfl
@[simp] theorem State.haltTick_eiShadow : (s.haltTick).eiShadow = false := rfl
@[simp] theorem State.haltTick_nmiLatch : (s.haltTick).nmiLatch = s.nmiLatch := rfl
@[simp] theorem State.haltTick_clock : (s.haltTick).clock = s.clock + 4 := rfl
@[simp] theorem State.haltTick_mem : (s.haltTick).mem = s.mem := rfl
@[simp] theorem State.haltTick_ioLog : (s.haltTick).ioLog = s.ioLog := rfl
@[simp] theorem State.haltTick_dbg : (s.haltTick).dbg = s.dbg := rfl
@[simp] theorem State.haltTick_faulted : (s.haltTick).faulted = s.faulted := rfl
@[simp] theorem State.haltTick_refused : (s.haltTick).refused = s.refused := rfl
@[simp] theorem State.haltTick_unset : (s.haltTick).unset = s.unset := rfl
@[simp] theorem State.haltTick_cfg : (s.haltTick).cfg = s.cfg := rfl
@[simp] theorem State.haltTick_env : (s.haltTick).env = s.env := rfl
@[simp] theorem State.haltTick_draws : (s.haltTick).draws = s.draws := rfl

/-! ### `warmReset` -/

@[simp] theorem State.warmReset_a : (s.warmReset).a = s.a := rfl
@[simp] theorem State.warmReset_f : (s.warmReset).f = s.f := rfl
@[simp] theorem State.warmReset_b : (s.warmReset).b = s.b := rfl
@[simp] theorem State.warmReset_c : (s.warmReset).c = s.c := rfl
@[simp] theorem State.warmReset_d : (s.warmReset).d = s.d := rfl
@[simp] theorem State.warmReset_e : (s.warmReset).e = s.e := rfl
@[simp] theorem State.warmReset_h : (s.warmReset).h = s.h := rfl
@[simp] theorem State.warmReset_l : (s.warmReset).l = s.l := rfl
@[simp] theorem State.warmReset_a' : (s.warmReset).a' = s.a' := rfl
@[simp] theorem State.warmReset_f' : (s.warmReset).f' = s.f' := rfl
@[simp] theorem State.warmReset_b' : (s.warmReset).b' = s.b' := rfl
@[simp] theorem State.warmReset_c' : (s.warmReset).c' = s.c' := rfl
@[simp] theorem State.warmReset_d' : (s.warmReset).d' = s.d' := rfl
@[simp] theorem State.warmReset_e' : (s.warmReset).e' = s.e' := rfl
@[simp] theorem State.warmReset_h' : (s.warmReset).h' = s.h' := rfl
@[simp] theorem State.warmReset_l' : (s.warmReset).l' = s.l' := rfl
@[simp] theorem State.warmReset_ix : (s.warmReset).ix = s.ix := rfl
@[simp] theorem State.warmReset_iy : (s.warmReset).iy = s.iy := rfl
@[simp] theorem State.warmReset_sp : (s.warmReset).sp = s.sp := rfl
@[simp] theorem State.warmReset_pc : (s.warmReset).pc = 0 := rfl
@[simp] theorem State.warmReset_i : (s.warmReset).i = 0 := rfl
@[simp] theorem State.warmReset_r : (s.warmReset).r = 0 := rfl
@[simp] theorem State.warmReset_iff1 : (s.warmReset).iff1 = false := rfl
@[simp] theorem State.warmReset_iff2 : (s.warmReset).iff2 = false := rfl
@[simp] theorem State.warmReset_im : (s.warmReset).im = .im0 := rfl
@[simp] theorem State.warmReset_halted : (s.warmReset).halted = false := rfl
@[simp] theorem State.warmReset_eiShadow : (s.warmReset).eiShadow = false := rfl
@[simp] theorem State.warmReset_nmiLatch : (s.warmReset).nmiLatch = false := rfl
@[simp] theorem State.warmReset_clock : (s.warmReset).clock = s.clock := rfl
@[simp] theorem State.warmReset_mem : (s.warmReset).mem = s.mem := rfl
@[simp] theorem State.warmReset_ioLog : (s.warmReset).ioLog = s.ioLog := rfl
@[simp] theorem State.warmReset_dbg : (s.warmReset).dbg = { s.dbg with mode := .idle, stopBp := none, fired := [] } := rfl
@[simp] theorem State.warmReset_faulted : (s.warmReset).faulted = s.faulted := rfl
@[simp] theorem State.warmReset_refused : (s.warmReset).refused = s.refused := rfl
@[simp] theorem State.warmReset_unset : (s.warmReset).unset = s.unset := rfl
@[simp] theorem State.warmReset_cfg : (s.warmReset).cfg = s.cfg := rfl
@[simp] theorem State.warmReset_env : (s.warmReset).env = s.env := rfl
@[simp] theorem State.warmReset_draws : (s.warmReset).draws = s.draws := rfl

/-! ### `tick` -/

@[simp] theorem State.tick_a : (s.tick).a = s.a := rfl
@[simp] theorem State.tick_f : (s.tick).f = s.f := rfl
@[simp] theorem State.tick_b : (s.tick).b = s.b := rfl
@[simp] theorem State.tick_c : (s.tick).c = s.c := rfl
@[simp] theorem State.tick_d : (s.tick).d = s.d := rfl
@[simp] theorem State.tick_e : (s.tick).e = s.e := rfl
@[simp] theorem State.tick_h : (s.tick).h = s.h := rfl
@[simp] theorem State.tick_l : (s.tick).l = s.l := rfl
@[simp] theorem State.tick_a' : (s.tick).a' = s.a' := rfl
@[simp] theorem State.tick_f' : (s.tick).f' = s.f' := rfl
@[simp] theorem State.tick_b' : (s.tick).b' = s.b' := rfl
@[simp] theorem State.tick_c' : (s.tick).c' = s.c' := rfl
@[simp] theorem State.tick_d' : (s.tick).d' = s.d' := rfl
@[simp] theorem State.tick_e' : (s.tick).e' = s.e' := rfl
@[simp] theorem State.tick_h' : (s.tick).h' = s.h' := rfl
@[simp] theorem State.tick_l' : (s.tick).l' = s.l' := rfl
@[simp] theorem State.tick_ix : (s.tick).ix = s.ix := rfl
@[simp] theorem State.tick_iy : (s.tick).iy = s.iy := rfl
@[simp] theorem State.tick_sp : (s.tick).sp = s.sp := rfl
@[simp] theorem State.tick_pc : (s.tick).pc = s.pc := rfl
@[simp] theorem State.tick_i : (s.tick).i = s.i := rfl
@[simp] theorem State.tick_r : (s.tick).r = s.r := rfl
@[simp] theorem State.tick_iff1 : (s.tick).iff1 = s.iff1 := rfl
@[simp] theorem State.tick_iff2 : (s.tick).iff2 = s.iff2 := rfl
@[simp] theorem State.tick_im : (s.tick).im = s.im := rfl
@[simp] theorem State.tick_halted : (s.tick).halted = s.halted := rfl
@[simp] theorem State.tick_eiShadow : (s.tick).eiShadow = s.eiShadow := rfl
@[simp] theorem State.tick_nmiLatch : (s.tick).nmiLatch = s.nmiLatch := rfl
@[simp] theorem State.tick_clock : (s.tick).clock = s.clock := rfl
@[simp] theorem State.tick_mem : (s.tick).mem = s.mem := rfl
@[simp] theorem State.tick_ioLog : (s.tick).ioLog = s.ioLog := rfl
@[simp] theorem State.tick_dbg : (s.tick).dbg = s.dbg := rfl
@[simp] theorem State.tick_faulted : (s.tick).faulted = s.faulted := rfl
@[simp] theorem State.tick_refused : (s.tick).refused = s.refused := rfl
@[simp] theorem State.tick_unset : (s.tick).unset = s.unset := rfl
@[simp] theorem State.tick_cfg : (s.tick).cfg = s.cfg := rfl
@[simp] theorem State.tick_env : (s.tick).env = { s.env with int := s.env.int.next, reset := s.env.reset.next } := rfl
@[simp] theorem State.tick_draws : (s.tick).draws = s.draws := rfl

/-! ### `latchNmi` -/

@[simp] theorem State.latchNmi_a (k : IntSample) : (s.latchNmi k).a = s.a := rfl
@[simp] theorem State.latchNmi_f (k : IntSample) : (s.latchNmi k).f = s.f := rfl
@[simp] theorem State.latchNmi_b (k : IntSample) : (s.latchNmi k).b = s.b := rfl
@[simp] theorem State.latchNmi_c (k : IntSample) : (s.latchNmi k).c = s.c := rfl
@[simp] theorem State.latchNmi_d (k : IntSample) : (s.latchNmi k).d = s.d := rfl
@[simp] theorem State.latchNmi_e (k : IntSample) : (s.latchNmi k).e = s.e := rfl
@[simp] theorem State.latchNmi_h (k : IntSample) : (s.latchNmi k).h = s.h := rfl
@[simp] theorem State.latchNmi_l (k : IntSample) : (s.latchNmi k).l = s.l := rfl
@[simp] theorem State.latchNmi_a' (k : IntSample) : (s.latchNmi k).a' = s.a' := rfl
@[simp] theorem State.latchNmi_f' (k : IntSample) : (s.latchNmi k).f' = s.f' := rfl
@[simp] theorem State.latchNmi_b' (k : IntSample) : (s.latchNmi k).b' = s.b' := rfl
@[simp] theorem State.latchNmi_c' (k : IntSample) : (s.latchNmi k).c' = s.c' := rfl
@[simp] theorem State.latchNmi_d' (k : IntSample) : (s.latchNmi k).d' = s.d' := rfl
@[simp] theorem State.latchNmi_e' (k : IntSample) : (s.latchNmi k).e' = s.e' := rfl
@[simp] theorem State.latchNmi_h' (k : IntSample) : (s.latchNmi k).h' = s.h' := rfl
@[simp] theorem State.latchNmi_l' (k : IntSample) : (s.latchNmi k).l' = s.l' := rfl
@[simp] theorem State.latchNmi_ix (k : IntSample) : (s.latchNmi k).ix = s.ix := rfl
@[simp] theorem State.latchNmi_iy (k : IntSample) : (s.latchNmi k).iy = s.iy := rfl
@[simp] theorem State.latchNmi_sp (k : IntSample) : (s.latchNmi k).sp = s.sp := rfl
@[simp] theorem State.latchNmi_pc (k : IntSample) : (s.latchNmi k).pc = s.pc := rfl
@[simp] theorem State.latchNmi_i (k : IntSample) : (s.latchNmi k).i = s.i := rfl
@[simp] theorem State.latchNmi_r (k : IntSample) : (s.latchNmi k).r = s.r := rfl
@[simp] theorem State.latchNmi_iff1 (k : IntSample) : (s.latchNmi k).iff1 = s.iff1 := rfl
@[simp] theorem State.latchNmi_iff2 (k : IntSample) : (s.latchNmi k).iff2 = s.iff2 := rfl
@[simp] theorem State.latchNmi_im (k : IntSample) : (s.latchNmi k).im = s.im := rfl
@[simp] theorem State.latchNmi_halted (k : IntSample) : (s.latchNmi k).halted = s.halted := rfl
@[simp] theorem State.latchNmi_eiShadow (k : IntSample) : (s.latchNmi k).eiShadow = s.eiShadow := rfl
@[simp] theorem State.latchNmi_nmiLatch (k : IntSample) : (s.latchNmi k).nmiLatch = (s.nmiLatch || k.nmiEdge) := rfl
@[simp] theorem State.latchNmi_clock (k : IntSample) : (s.latchNmi k).clock = s.clock := rfl
@[simp] theorem State.latchNmi_mem (k : IntSample) : (s.latchNmi k).mem = s.mem := rfl
@[simp] theorem State.latchNmi_ioLog (k : IntSample) : (s.latchNmi k).ioLog = s.ioLog := rfl
@[simp] theorem State.latchNmi_dbg (k : IntSample) : (s.latchNmi k).dbg = s.dbg := rfl
@[simp] theorem State.latchNmi_faulted (k : IntSample) : (s.latchNmi k).faulted = s.faulted := rfl
@[simp] theorem State.latchNmi_refused (k : IntSample) : (s.latchNmi k).refused = s.refused := rfl
@[simp] theorem State.latchNmi_unset (k : IntSample) : (s.latchNmi k).unset = s.unset := rfl
@[simp] theorem State.latchNmi_cfg (k : IntSample) : (s.latchNmi k).cfg = s.cfg := rfl
@[simp] theorem State.latchNmi_env (k : IntSample) : (s.latchNmi k).env = s.env := rfl
@[simp] theorem State.latchNmi_draws (k : IntSample) : (s.latchNmi k).draws = s.draws := rfl

/-! ### `enterHandler` -/

@[simp] theorem State.enterHandler_a (q : Bool) (n : Nat) (g : State → Word) : (s.enterHandler q n g).a = s.a := by simp [State.enterHandler]
@[simp] theorem State.enterHandler_f (q : Bool) (n : Nat) (g : State → Word) : (s.enterHandler q n g).f = s.f := by simp [State.enterHandler]
@[simp] theorem State.enterHandler_b (q : Bool) (n : Nat) (g : State → Word) : (s.enterHandler q n g).b = s.b := by simp [State.enterHandler]
@[simp] theorem State.enterHandler_c (q : Bool) (n : Nat) (g : State → Word) : (s.enterHandler q n g).c = s.c := by simp [State.enterHandler]
@[simp] theorem State.enterHandler_d (q : Bool) (n : Nat) (g : State → Word) : (s.enterHandler q n g).d = s.d := by simp [State.enterHandler]
@[simp] theorem State.enterHandler_e (q : Bool) (n : Nat) (g : State → Word) : (s.enterHandler q n g).e = s.e := by simp [State.enterHandler]
@[simp] theorem State.enterHandler_h (q : Bool) (n : Nat) (g : State → Word) : (s.enterHandler q n g).h = s.h := by simp [State.enterHandler]
@[simp] theorem State.enterHandler_l (q : Bool) (n : Nat) (g : State → Word) : (s.enterHandler q n g).l = s.l := by simp [State.enterHandler]
@[simp] theorem State.enterHandler_a' (q : Bool) (n : Nat) (g : State → Word) : (s.enterHandler q n g).a' = s.a' := by simp [State.enterHandler]
@[simp] theorem State.enterHandler_f' (q : Bool) (n : Nat) (g : State → Word) : (s.enterHandler q n g).f' = s.f' := by simp [State.enterHandler]
@[simp] theorem State.enterHandler_b' (q : Bool) (n : Nat) (g : State → Word) : (s.enterHandler q n g).b' = s.b' := by simp [State.enterHandler]
@[simp] theorem State.enterHandler_c' (q : Bool) (n : Nat) (g : State → Word) : (s.enterHandler q n g).c' = s.c' := by simp [State.enterHandler]
@[simp] theorem State.enterHandler_d' (q : Bool) (n : Nat) (g : State → Word) : (s.enterHandler q n g).d' = s.d' := by simp [State.enterHandler]
@[simp] theorem State.enterHandler_e' (q : Bool) (n : Nat) (g : State → Word) : (s.enterHandler q n g).e' = s.e' := by simp [State.enterHandler]
@[simp] theorem State.enterHandler_h' (q : Bool) (n : Nat) (g : State → Word) : (s.enterHandler q n g).h' = s.h' := by simp [State.enterHandler]
@[simp] theorem State.enterHandler_l' (q : Bool) (n : Nat) (g : State → Word) : (s.enterHandler q n g).l' = s.l' := by simp [State.enterHandler]
@[simp] theorem State.enterHandler_ix (q : Bool) (n : Nat) (g : State → Word) : (s.enterHandler q n g).ix = s.ix := by simp [State.enterHandler]
@[simp] theorem State.enterHandler_iy (q : Bool) (n : Nat) (g : State → Word) : (s.enterHandler q n g).iy = s.iy := by simp [State.enterHandler]
@[simp] theorem State.enterHandler_sp (q : Bool) (n : Nat) (g : State → Word) : (s.enterHandler q n g).sp = s.sp - 1 - 1 := by simp [State.enterHandler]
@[simp] theorem State.enterHandler_i (q : Bool) (n : Nat) (g : State → Word) : (s.enterHandler q n g).i = s.i := by simp [State.enterHandler]
@[simp] theorem State.enterHandler_r (q : Bool) (n : Nat) (g : State → Word) : (s.enterHandler q n g).r = incRefresh 1 s.r := by simp [State.enterHandler]
@[simp] theorem State.enterHandler_iff1 (q : Bool) (n : Nat) (g : State → Word) : (s.enterHandler q n g).iff1 = false := by simp [State.enterHandler]
@[simp] theorem State.enterHandler_iff2 (q : Bool) (n : Nat) (g : State → Word) : (s.enterHandler q n g).iff2 = q := by simp [State.enterHandler]
@[simp] theorem State.enterHandler_im (q : Bool) (n : Nat) (g : State → Word) : (s.enterHandler q n g).im = s.im := by simp [State.enterHandler]
@[simp] theorem State.enterHandler_halted (q : Bool) (n : Nat) (g : State → Word) : (s.enterHandler q n g).halted = false := by simp [State.enterHandler]
@[simp] theorem State.enterHandler_eiShadow (q : Bool) (n : Nat) (g : State → Word) : (s.enterHandler q n g).eiShadow = false := by simp [State.enterHandler]
@[simp] theorem State.enterHandler_nmiLatch (q : Bool) (n : Nat) (g : State → Word) : (s.enterHandler q n g).nmiLatch = s.nmiLatch := by simp [State.enterHandler]
@[simp] theorem State.enterHandler_clock (q : Bool) (n : Nat) (g : State → Word) : (s.enterHandler q n g).clock = s.clock + n := by simp [State.enterHandler]
@[simp] theorem State.enterHandler_ioLog (q : Bool) (n : Nat) (g : State → Word) : (s.enterHandler q n g).ioLog = s.ioLog := by simp [State.enterHandler]
@[simp] theorem State.enterHandler_dbg (q : Bool) (n : Nat) (g : State → Word) : (s.enterHandler q n g).dbg = s.dbg := by simp [State.enterHandler]
@[simp] theorem State.enterHandler_faulted (q : Bool) (n : Nat) (g : State → Word) : (s.enterHandler q n g).faulted = s.faulted := by simp [State.enterHandler]
@[simp] theorem State.enterHandler_refused (q : Bool) (n : Nat) (g : State → Word) : (s.enterHandler q n g).refused = s.refused := by simp [State.enterHandler]
@[simp] theorem State.enterHandler_unset (q : Bool) (n : Nat) (g : State → Word) : (s.enterHandler q n g).unset = s.unset := by simp [State.enterHandler]
@[simp] theorem State.enterHandler_cfg (q : Bool) (n : Nat) (g : State → Word) : (s.enterHandler q n g).cfg = s.cfg := by simp [State.enterHandler]
@[simp] theorem State.enterHandler_env (q : Bool) (n : Nat) (g : State → Word) : (s.enterHandler q n g).env = s.env := by simp [State.enterHandler]
@[simp] theorem State.enterHandler_draws (q : Bool) (n : Nat) (g : State → Word) : (s.enterHandler q n g).draws = s.draws := by simp [State.enterHandler]

/-! ### `aluAdd` -/

@[simp] theorem State.aluAdd_b (v : Byte) : (s.aluAdd v).b = s.b := rfl
@[simp] theorem State.aluAdd_c (v : Byte) : (s.aluAdd v).c = s.c := rfl
@[simp] theorem State.aluAdd_d (v : Byte) : (s.aluAdd v).d = s.d := rfl
@[simp] theorem State.aluAdd_e (v : Byte) : (s.aluAdd v).e = s.e := rfl
@[simp] theorem State.aluAdd_h (v : Byte) : (s.aluAdd v).h = s.h := rfl
@[simp] theorem State.aluAdd_l (v : Byte) : (s.aluAdd v).l = s.l := rfl
@[simp] theorem State.aluAdd_a' (v : Byte) : (s.aluAdd v).a' = s.a' := rfl
@[simp] theorem State.aluAdd_f' (v : Byte) : (s.aluAdd v).f' = s.f' := rfl
@[simp] theorem State.aluAdd_b' (v : Byte) : (s.aluAdd v).b' = s.b' := rfl
@[simp] theorem State.aluAdd_c' (v : Byte) : (s.aluAdd v).c' = s.c' := rfl
@[simp] theorem State.aluAdd_d' (v : Byte) : (s.aluAdd v).d' = s.d' := rfl
@[simp] theorem State.aluAdd_e' (v : Byte) : (s.aluAdd v).e' = s.e' := rfl
@[simp] theorem State.aluAdd_h' (v : Byte) : (s.aluAdd v).h' = s.h' := rfl
@[simp] theorem State.aluAdd_l' (v : Byte) : (s.aluAdd v).l' = s.l' := rfl
@[simp] theorem State.aluAdd_ix (v : Byte) : (s.aluAdd v).ix = s.ix := rfl
@[simp] theorem State.aluAdd_iy (v : Byte) : (s.aluAdd v).iy = s.iy := rfl
@[simp] theorem State.aluAdd_sp (v : Byte) : (s.aluAdd v).sp = s.sp := rfl
@[simp] theorem State.aluAdd_pc (v : Byte) : (s.aluAdd v).pc = s.pc := rfl
@[simp] theorem State.aluAdd_i (v : Byte) : (s.aluAdd v).i = s.i := rfl
@[simp] theorem State.aluAdd_r (v : Byte) : (s.aluAdd v).r = s.r := rfl
@[simp] theorem State.aluAdd_iff1 (v : Byte) : (s.aluAdd v).iff1 = s.iff1 := rfl
@[simp] theorem State.aluAdd_iff2 (v : Byte) : (s.aluAdd v).iff2 = s.iff2 := rfl
@[simp] theorem State.aluAdd_im (v : Byte) : (s.aluAdd v).im = s.im := rfl
@[simp] theorem State.aluAdd_halted (v : Byte) : (s.aluAdd v).halted = s.halted := rfl
@[simp] theorem State.aluAdd_eiShadow (v : Byte) : (s.aluAdd v).eiShadow = s.eiShadow := rfl
@[simp] theorem State.aluAdd_nmiLatch (v : Byte) : (s.aluAdd v).nmiLatch = s.nmiLatch := rfl
@[simp] theorem State.aluAdd_clock (v : Byte) : (s.aluAdd v).clock = s.clock := rfl
@[simp] theorem State.aluAdd_mem (v : Byte) : (s.aluAdd v).mem = s.mem := rfl
@[simp] theorem State.aluAdd_ioLog (v : Byte) : (s.aluAdd v).ioLog = s.ioLog := rfl
@[simp] theorem State.aluAdd_dbg (v : Byte) : (s.aluAdd v).dbg = s.dbg := rfl
@[simp] theorem State.aluAdd_faulted (v : Byte) : (s.aluAdd v).faulted = s.faulted := rfl
@[simp] theorem State.aluAdd_refused (v : Byte) : (s.aluAdd v).refused = s.refused := rfl
@[simp] theorem State.aluAdd_unset (v : Byte) : (s.aluAdd v).unset = s.unset := rfl
@[simp] theorem State.aluAdd_cfg (v : Byte) : (s.aluAdd v).cfg = s.cfg := rfl
@[simp] theorem State.aluAdd_env (v : Byte) : (s.aluAdd v).env = s.env := rfl
@[simp] theorem State.aluAdd_draws (v : Byte) : (s.aluAdd v).draws = s.draws + 1 := rfl

/-! ### `aluAdc` -/

@[simp] theorem State.aluAdc_b (v : Byte) : (s.aluAdc v).b = s.b := rfl
@[simp] theorem State.aluAdc_c (v : Byte) : (s.aluAdc v).c = s.c := rfl
@[simp] theorem State.aluAdc_d (v : Byte) : (s.aluAdc v).d = s.d := rfl
@[simp] theorem State.aluAdc_e (v : Byte) : (s.aluAdc v).e = s.e := rfl
@[simp] theorem State.aluAdc_h (v : Byte) : (s.aluAdc v).h = s.h := rfl
@[simp] theorem State.aluAdc_l (v : Byte) : (s.aluAdc v).l = s.l := rfl
@[simp] theorem State.aluAdc_a' (v : Byte) : (s.aluAdc v).a' = s.a' := rfl
@[simp] theorem State.aluAdc_f' (v : Byte) : (s.aluAdc v).f' = s.f' := rfl
@[simp] theorem State.aluAdc_b' (v : Byte) : (s.aluAdc v).b' = s.b' := rfl
@[simp] theorem State.aluAdc_c' (v : Byte) : (s.aluAdc v).c' = s.c' := rfl
@[simp] theorem State.aluAdc_d' (v : Byte) : (s.aluAdc v).d' = s.d' := rfl
@[simp] theorem State.aluAdc_e' (v : Byte) : (s.aluAdc v).e' = s.e' := rfl
@[simp] theorem State.aluAdc_h' (v : Byte) : (s.aluAdc v).h' = s.h' := rfl
@[simp] theorem State.aluAdc_l' (v : Byte) : (s.aluAdc v).l' = s.l' := rfl
@[simp] theorem State.aluAdc_ix (v : Byte) : (s.aluAdc v).ix = s.ix := rfl
@[simp] theorem State.aluAdc_iy (v : Byte) : (s.aluAdc v).iy = s.iy := rfl
@[simp] theorem State.aluAdc_sp (v : Byte) : (s.aluAdc v).sp = s.sp := rfl
@[simp] theorem State.aluAdc_pc (v : Byte) : (s.aluAdc v).pc = s.pc := rfl
@[simp] theorem State.aluAdc_i (v : Byte) : (s.aluAdc v).i = s.i := rfl
@[simp] theorem State.aluAdc_r (v : Byte) : (s.aluAdc v).r = s.r := rfl
@[simp] theorem State.aluAdc_iff1 (v : Byte) : (s.aluAdc v).iff1 = s.iff1 := rfl
@[simp] theorem State.aluAdc_iff2 (v : Byte) : (s.aluAdc v).iff2 = s.iff2 := rfl
@[simp] theorem State.aluAdc_im (v : Byte) : (s.aluAdc v).im = s.im := rfl
@[simp] theorem State.aluAdc_halted (v : Byte) : (s.aluAdc v).halted = s.halted := rfl
@[simp] theorem State.aluAdc_eiShadow (v : Byte) : (s.aluAdc v).eiShadow = s.eiShadow := rfl
@[simp] theorem State.aluAdc_nmiLatch (v : Byte) : (s.aluAdc v).nmiLatch = s.nmiLatch := rfl
@[simp] theorem State.aluAdc_clock (v : Byte) : (s.aluAdc v).clock = s.clock := rfl
@[simp] theorem State.aluAdc_mem (v : Byte) : (s.aluAdc v).mem = s.mem := rfl
@[simp] theorem State.aluAdc_ioLog (v : Byte) : (s.aluAdc v).ioLog = s.ioLog := rfl
@[simp] theorem State.aluAdc_dbg (v : Byte) : (s.aluAdc v).dbg = s.dbg := rfl
@[simp] theorem State.aluAdc_faulted (v : Byte) : (s.aluAdc v).faulted = s.faulted := rfl
@[simp] theorem State.aluAdc_refused (v : Byte) : (s.aluAdc v).refused = s.refused := rfl
@[simp] theorem State.aluAdc_unset (v : Byte) : (s.aluAdc v).unset = s.unset := rfl
@[simp] theorem State.aluAdc_cfg (v : Byte) : (s.aluAdc v).cfg = s.cfg := rfl
@[simp] theorem State.aluAdc_env (v : Byte) : (s.aluAdc v).env = s.env := rfl
@[simp] theorem State.aluAdc_draws (v : Byte) : (s.aluAdc v).draws = s.draws + 1 := rfl

/-! ### `aluSub` -/

@[simp] theorem State.aluSub_b (v : Byte) : (s.aluSub v).b = s.b := rfl
@[simp] theorem State.aluSub_c (v : Byte) : (s.aluSub v).c = s.c := rfl
@[simp] theorem State.aluSub_d (v : Byte) : (s.aluSub v).d = s.d := rfl
@[simp] theorem State.aluSub_e (v : Byte) : (s.aluSub v).e = s.e := rfl
@[simp] theorem State.aluSub_h (v : Byte) : (s.aluSub v).h = s.h := rfl
@[simp] theorem State.aluSub_l (v : Byte) : (s.aluSub v).l = s.l := rfl
@[simp] theorem State.aluSub_a' (v : Byte) : (s.aluSub v).a' = s.a' := rfl
@[simp] theorem State.aluSub_f' (v : Byte) : (s.aluSub v).f' = s.f' := rfl
@[simp] theorem State.aluSub_b' (v : Byte) : (s.aluSub v).b' = s.b' := rfl
@[simp] theorem State.aluSub_c' (v : Byte) : (s.aluSub v).c' = s.c' := rfl
@[simp] theorem State.aluSub_d' (v : Byte) : (s.aluSub v).d' = s.d' := rfl
@[simp] theorem State.aluSub_e' (v : Byte) : (s.aluSub v).e' = s.e' := rfl
@[simp] theorem State.aluSub_h' (v : Byte) : (s.aluSub v).h' = s.h' := rfl
@[simp] theorem State.aluSub_l' (v : Byte) : (s.aluSub v).l' = s.l' := rfl
@[simp] theorem State.aluSub_ix (v : Byte) : (s.aluSub v).ix = s.ix := rfl
@[simp] theorem State.aluSub_iy (v : Byte) : (s.aluSub v).iy = s.iy := rfl
@[simp] theorem State.aluSub_sp (v : Byte) : (s.aluSub v).sp = s.sp := rfl
@[simp] theorem State.aluSub_pc (v : Byte) : (s.aluSub v).pc = s.pc := rfl
@[simp] theorem State.aluSub_i (v : Byte) : (s.aluSub v).i = s.i := rfl
@[simp] theorem State.aluSub_r (v : Byte) : (s.aluSub v).r = s.r := rfl
@[simp] theorem State.aluSub_iff1 (v : Byte) : (s.aluSub v).iff1 = s.iff1 := rfl
@[simp] theorem State.aluSub_iff2 (v : Byte) : (s.aluSub v).iff2 = s.iff2 := rfl
@[simp] theorem State.aluSub_im (v : Byte) : (s.aluSub v).im = s.im := rfl
@[simp] theorem State.aluSub_halted (v : Byte) : (s.aluSub v).halted = s.halted := rfl
@[simp] theorem State.aluSub_eiShadow (v : Byte) : (s.aluSub v).eiShadow = s.eiShadow := rfl
@[simp] theorem State.aluSub_nmiLatch (v : Byte) : (s.aluSub v).nmiLatch = s.nmiLatch := rfl
@[simp] theorem State.aluSub_clock (v : Byte) : (s.aluSub v).clock = s.clock := rfl
@[simp] theorem State.aluSub_mem (v : Byte) : (s.aluSub v).mem = s.mem := rfl
@[simp] theorem State.aluSub_ioLog (v : Byte) : (s.aluSub v).ioLog = s.ioLog := rfl
@[simp] theorem State.aluSub_dbg (v : Byte) : (s.aluSub v).dbg = s.dbg := rfl
@[simp] theorem State.aluSub_faulted (v : Byte) : (s.aluSub v).faulted = s.faulted := rfl
@[simp] theorem State.aluSub_refused (v : Byte) : (s.aluSub v).refused = s.refused := rfl
@[simp] theorem State.aluSub_unset (v : Byte) : (s.aluSub v).unset = s.unset := rfl
@[simp] theorem State.aluSub_cfg (v : Byte) : (s.aluSub v).cfg = s.cfg := rfl
@[simp] theorem State.aluSub_env (v : Byte) : (s.aluSub v).env = s.env := rfl
@[simp] theorem State.aluSub_draws (v : Byte) : (s.aluSub v).draws = s.draws + 1 := rfl

/-! ### `aluSbc` -/

@[simp] theorem State.aluSbc_b (v : Byte) : (s.aluSbc v).b = s.b := rfl
@[simp] theorem State.aluSbc_c (v : Byte) : (s.aluSbc v).c = s.c := rfl
@[simp] theorem State.aluSbc_d (v : Byte) : (s.aluSbc v).d = s.d := rfl
@[simp] theorem State.aluSbc_e (v : Byte) : (s.aluSbc v).e = s.e := rfl
@[simp] theorem State.aluSbc_h (v : Byte) : (s.aluSbc v).h = s.h := rfl
@[simp] theorem State.aluSbc_l (v : Byte) : (s.aluSbc v).l = s.l := rfl
@[simp] theorem State.aluSbc_a' (v : Byte) : (s.aluSbc v).a' = s.a' := rfl
@[simp] theorem State.aluSbc_f' (v : Byte) : (s.aluSbc v).f' = s.f' := rfl
@[simp] theorem State.aluSbc_b' (v : Byte) : (s.aluSbc v).b' = s.b' := rfl
@[simp] theorem State.aluSbc_c' (v : Byte) : (s.aluSbc v).c' = s.c' := rfl
@[simp] theorem State.aluSbc_d' (v : Byte) : (s.aluSbc v).d' = s.d' := rfl
@[simp] theorem State.aluSbc_e' (v : Byte) : (s.aluSbc v).e' = s.e' := rfl
@[simp] theorem State.aluSbc_h' (v : Byte) : (s.aluSbc v).h' = s.h' := rfl
@[simp] theorem State.aluSbc_l' (v : Byte) : (s.aluSbc v).l' = s.l' := rfl
@[simp] theorem State.aluSbc_ix (v : Byte) : (s.aluSbc v).ix = s.ix := rfl
@[simp] theorem State.aluSbc_iy (v : Byte) : (s.aluSbc v).iy = s.iy := rfl
@[simp] theorem State.aluSbc_sp (v : Byte) : (s.aluSbc v).sp = s.sp := rfl
@[simp] theorem State.aluSbc_pc (v : Byte) : (s.aluSbc v).pc = s.pc := rfl
@[simp] theorem State.aluSbc_i (v : Byte) : (s.aluSbc v).i = s.i := rfl
@[simp] theorem State.aluSbc_r (v : Byte) : (s.aluSbc v).r = s.r := rfl
@[simp] theorem State.aluSbc_iff1 (v : Byte) : (s.aluSbc v).iff1 = s.iff1 := rfl
@[simp] theorem State.aluSbc_iff2 (v : Byte) : (s.aluSbc v).iff2 = s.iff2 := rfl
@[simp] theorem State.aluSbc_im (v : Byte) : (s.aluSbc v).im = s.im := rfl
@[simp] theorem State.aluSbc_halted (v : Byte) : (s.aluSbc v).halted = s.halted := rfl
@[simp] theorem State.aluSbc_eiShadow (v : Byte) : (s.aluSbc v).eiShadow = s.eiShadow := rfl
@[simp] theorem State.aluSbc_nmiLatch (v : Byte) : (s.aluSbc v).nmiLatch = s.nmiLatch := rfl
@[simp] theorem State.aluSbc_clock (v : Byte) : (s.aluSbc v).clock = s.clock := rfl
@[simp] theorem State.aluSbc_mem (v : Byte) : (s.aluSbc v).mem = s.mem := rfl
@[simp] theorem State.aluSbc_ioLog (v : Byte) : (s.aluSbc v).ioLog = s.ioLog := rfl
@[simp] theorem State.aluSbc_dbg (v : Byte) : (s.aluSbc v).dbg = s.dbg := rfl
@[simp] theorem State.aluSbc_faulted (v : Byte) : (s.aluSbc v).faulted = s.faulted := rfl
@[simp] theorem State.aluSbc_refused (v : Byte) : (s.aluSbc v).refused = s.refused := rfl
@[simp] theorem State.aluSbc_unset (v : Byte) : (s.aluSbc v).unset = s.unset := rfl
@[simp] theorem State.aluSbc_cfg (v : Byte) : (s.aluSbc v).cfg = s.cfg := rfl
@[simp] theorem State.aluSbc_env (v : Byte) : (s.aluSbc v).env = s.env := rfl
@[simp] theorem State.aluSbc_draws (v : Byte) : (s.aluSbc v).draws = s.draws + 1 := rfl

/-! ### `aluAnd` -/

@[simp] theorem State.aluAnd_b (v : Byte) : (s.aluAnd v).b = s.b := rfl
@[simp] theorem State.aluAnd_c (v : Byte) : (s.aluAnd v).c = s.c := rfl
@[simp] theorem State.aluAnd_d (v : Byte) : (s.aluAnd v).d = s.d := rfl
@[simp] theorem State.aluAnd_e (v : Byte) : (s.aluAnd v).e = s.e := rfl
@[simp] theorem State.aluAnd_h (v : Byte) : (s.aluAnd v).h = s.h := rfl
@[simp] theorem State.aluAnd_l (v : Byte) : (s.aluAnd v).l = s.l := rfl
@[simp] theorem State.aluAnd_a' (v : Byte) : (s.aluAnd v).a' = s.a' := rfl
@[simp] theorem State.aluAnd_f' (v : Byte) : (s.aluAnd v).f' = s.f' := rfl
@[simp] theorem State.aluAnd_b' (v : Byte) : (s.aluAnd v).b' = s.b' := rfl
@[simp] theorem State.aluAnd_c' (v : Byte) : (s.aluAnd v).c' = s.c' := rfl
@[simp] theorem State.aluAnd_d' (v : Byte) : (s.aluAnd v).d' = s.d' := rfl
@[simp] theorem State.aluAnd_e' (v : Byte) : (s.aluAnd v).e' = s.e' := rfl
@[simp] theorem State.aluAnd_h' (v : Byte) : (s.aluAnd v).h' = s.h' := rfl
@[simp] theorem State.aluAnd_l' (v : Byte) : (s.aluAnd v).l' = s.l' := rfl
@[simp] theorem State.aluAnd_ix (v : Byte) : (s.aluAnd v).ix = s.ix := rfl
@[simp] theorem State.aluAnd_iy (v : Byte) : (s.aluAnd v).iy = s.iy := rfl
@[simp] theorem State.aluAnd_sp (v : Byte) : (s.aluAnd v).sp = s.sp := rfl
@[simp] theorem State.aluAnd_pc (v : Byte) : (s.aluAnd v).pc = s.pc := rfl
@[simp] theorem State.aluAnd_i (v : Byte) : (s.aluAnd v).i = s.i := rfl
@[simp] theorem State.aluAnd_r (v : Byte) : (s.aluAnd v).r = s.r := rfl
@[simp] theorem State.aluAnd_iff1 (v : Byte) : (s.aluAnd v).iff1 = s.iff1 := rfl
@[simp] theorem State.aluAnd_iff2 (v : Byte) : (s.aluAnd v).iff2 = s.iff2 := rfl
@[simp] theorem State.aluAnd_im (v : Byte) : (s.aluAnd v).im = s.im := rfl
@[simp] theorem State.aluAnd_halted (v : Byte) : (s.aluAnd v).halted = s.halted := rfl
@[simp] theorem State.aluAnd_eiShadow (v : Byte) : (s.aluAnd v).eiShadow = s.eiShadow := rfl
@[simp] theorem State.aluAnd_nmiLatch (v : Byte) : (s.aluAnd v).nmiLatch = s.nmiLatch := rfl
@[simp] theorem State.aluAnd_clock (v : Byte) : (s.aluAnd v).clock = s.clock := rfl
@[simp] theorem State.aluAnd_mem (v : Byte) : (s.aluAnd v).mem = s.mem := rfl
@[simp] theorem State.aluAnd_ioLog (v : Byte) : (s.aluAnd v).ioLog = s.ioLog := rfl
@[simp] theorem State.aluAnd_dbg (v : Byte) : (s.aluAnd v).dbg = s.dbg := rfl
@[simp] theorem State.aluAnd_faulted (v : Byte) : (s.aluAnd v).faulted = s.faulted := rfl
@[simp] theorem State.aluAnd_refused (v : Byte) : (s.aluAnd v).refused = s.refused := rfl
@[simp] theorem State.aluAnd_unset (v : Byte) : (s.aluAnd v).unset = s.unset := rfl
@[simp] theorem State.aluAnd_cfg (v : Byte) : (s.aluAnd v).cfg = s.cfg := rfl
@[simp] theorem State.aluAnd_env (v : Byte) : (s.aluAnd v).env = s.env := rfl
@[simp] theorem State.aluAnd_draws (v : Byte) : (s.aluAnd v).draws = s.draws + 1 := rfl

/-! ### `aluXor` -/

@[simp] theorem State.aluXor_b (v : Byte) : (s.aluXor v).b = s.b := rfl
@[simp] theorem State.aluXor_c (v : Byte) : (s.aluXor v).c = s.c := rfl
@[simp] theorem State.aluXor_d (v : Byte) : (s.aluXor v).d = s.d := rfl
@[simp] theorem State.aluXor_e (v : Byte) : (s.aluXor v).e = s.e := rfl
@[simp] theorem State.aluXor_h (v : Byte) : (s.aluXor v).h = s.h := rfl
@[simp] theorem State.aluXor_l (v : Byte) : (s.aluXor v).l = s.l := rfl
@[simp] theorem State.aluXor_a' (v : Byte) : (s.aluXor v).a' = s.a' := rfl
@[simp] theorem State.aluXor_f' (v : Byte) : (s.aluXor v).f' = s.f' := rfl
@[simp] theorem State.aluXor_b' (v : Byte) : (s.aluXor v).b' = s.b' := rfl
@[simp] theorem State.aluXor_c' (v : Byte) : (s.aluXor v).c' = s.c' := rfl
@[simp] theorem State.aluXor_d' (v : Byte) : (s.aluXor v).d' = s.d' := rfl
@[simp] theorem State.aluXor_e' (v : Byte) : (s.aluXor v).e' = s.e' := rfl
@[simp] theorem State.aluXor_h' (v : Byte) : (s.aluXor v).h' = s.h' := rfl
@[simp] theorem State.aluXor_l' (v : Byte) : (s.aluXor v).l' = s.l' := rfl
@[simp] theorem State.aluXor_ix (v : Byte) : (s.aluXor v).ix = s.ix := rfl
@[simp] theorem State.aluXor_iy (v : Byte) : (s.aluXor v).iy = s.iy := rfl
@[simp] theorem State.aluXor_sp (v : Byte) : (s.aluXor v).sp = s.sp := rfl
@[simp] theorem State.aluXor_pc (v : Byte) : (s.aluXor v).pc = s.pc := rfl
@[simp] theorem State.aluXor_i (v : Byte) : (s.aluXor v).i = s.i := rfl
@[simp] theorem State.aluXor_r (v : Byte) : (s.aluXor v).r = s.r := rfl
@[simp] theorem State.aluXor_iff1 (v : Byte) : (s.aluXor v).iff1 = s.iff1 := rfl
@[simp] theorem State.aluXor_iff2 (v : Byte) : (s.aluXor v).iff2 = s.iff2 := rfl
@[simp] theorem State.aluXor_im (v : Byte) : (s.aluXor v).im = s.im := rfl
@[simp] theorem State.aluXor_halted (v : Byte) : (s.aluXor v).halted = s.halted := rfl
@[simp] theorem State.aluXor_eiShadow (v : Byte) : (s.aluXor v).eiShadow = s.eiShadow := rfl
@[simp] theorem State.aluXor_nmiLatch (v : Byte) : (s.aluXor v).nmiLatch = s.nmiLatch := rfl
@[simp] theorem State.aluXor_clock (v : Byte) : (s.aluXor v).clock = s.clock := rfl
@[simp] theorem State.aluXor_mem (v : Byte) : (s.aluXor v).mem = s.mem := rfl
@[simp] theorem State.aluXor_ioLog (v : Byte) : (s.aluXor v).ioLog = s.ioLog := rfl
@[simp] theorem State.aluXor_dbg (v : Byte) : (s.aluXor v).dbg = s.dbg := rfl
@[simp] theorem State.aluXor_faulted (v : Byte) : (s.aluXor v).faulted = s.faulted := rfl
@[simp] theorem State.aluXor_refused (v : Byte) : (s.aluXor v).refused = s.refused := rfl
@[simp] theorem State.aluXor_unset (v : Byte) : (s.aluXor v).unset = s.unset := rfl
@[simp] theorem State.aluXor_cfg (v : Byte) : (s.aluXor v).cfg = s.cfg := rfl
@[simp] theorem State.aluXor_env (v : Byte) : (s.aluXor v).env = s.env := rfl
@[simp] theorem State.aluXor_draws (v : Byte) : (s.aluXor v).draws = s.draws + 1 := rfl

/-! ### `aluOr` -/

@[simp] theorem State.aluOr_b (v : Byte) : (s.aluOr v).b = s.b := rfl
@[simp] theorem State.aluOr_c (v : Byte) : (s.aluOr v).c = s.c := rfl
@[simp] theorem State.aluOr_d (v : Byte) : (s.aluOr v).d = s.d := rfl
@[simp] theorem State.aluOr_e (v : Byte) : (s.aluOr v).e = s.e := rfl
@[simp] theorem State.aluOr_h (v : Byte) : (s.aluOr v).h = s.h := rfl
@[simp] theorem State.aluOr_l (v : Byte) : (s.aluOr v).l = s.l := rfl
@[simp] theorem State.aluOr_a' (v : Byte) : (s.aluOr v).a' = s.a' := rfl
@[simp] theorem State.aluOr_f' (v : Byte) : (s.aluOr v).f' = s.f' := rfl
@[simp] theorem State.aluOr_b' (v : Byte) : (s.aluOr v).b' = s.b' := rfl
@[simp] theorem State.aluOr_c' (v : Byte) : (s.aluOr v).c' = s.c' := rfl
@[simp] theorem State.aluOr_d' (v : Byte) : (s.aluOr v).d' = s.d' := rfl
@[simp] theorem State.aluOr_e' (v : Byte) : (s.aluOr v).e' = s.e' := rfl
@[simp] theorem State.aluOr_h' (v : Byte) : (s.aluOr v).h' = s.h' := rfl
@[simp] theorem State.aluOr_l' (v : Byte) : (s.aluOr v).l' = s.l' := rfl
@[simp] theorem State.aluOr_ix (v : Byte) : (s.aluOr v).ix = s.ix := rfl
@[simp] theorem State.aluOr_iy (v : Byte) : (s.aluOr v).iy = s.iy := rfl
@[simp] theorem State.aluOr_sp (v : Byte) : (s.aluOr v).sp = s.sp := rfl
@[simp] theorem State.aluOr_pc (v : Byte) : (s.aluOr v).pc = s.pc := rfl
@[simp] theorem State.aluOr_i (v : Byte) : (s.aluOr v).i = s.i := rfl
@[simp] theorem State.aluOr_r (v : Byte) : (s.aluOr v).r = s.r := rfl
@[simp] theorem State.aluOr_iff1 (v : Byte) : (s.aluOr v).iff1 = s.iff1 := rfl
@[simp] theorem State.aluOr_iff2 (v : Byte) : (s.aluOr v).iff2 = s.iff2 := rfl
@[simp] theorem State.aluOr_im (v : Byte) : (s.aluOr v).im = s.im := rfl
@[simp] theorem State.aluOr_halted (v : Byte) : (s.aluOr v).halted = s.halted := rfl
@[simp] theorem State.aluOr_eiShadow (v : Byte) : (s.aluOr v).eiShadow = s.eiShadow := rfl
@[simp] theorem State.aluOr_nmiLatch (v : Byte) : (s.aluOr v).nmiLatch = s.nmiLatch := rfl
@[simp] theorem State.aluOr_clock (v : Byte) : (s.aluOr v).clock = s.clock := rfl
@[simp] theorem State.aluOr_mem (v : Byte) : (s.aluOr v).mem = s.mem := rfl
@[simp] theorem State.aluOr_ioLog (v : Byte) : (s.aluOr v).ioLog = s.ioLog := rfl
@[simp] theorem State.aluOr_dbg (v : Byte) : (s.aluOr v).dbg = s.dbg := rfl
@[simp] theorem State.aluOr_faulted (v : Byte) : (s.aluOr v).faulted = s.faulted := rfl
@[simp] theorem State.aluOr_refused (v : Byte) : (s.aluOr v).refused = s.refused := rfl
@[simp] theorem State.aluOr_unset (v : Byte) : (s.aluOr v).unset = s.unset := rfl
@[simp] theorem State.aluOr_cfg (v : Byte) : (s.aluOr v).cfg = s.cfg := rfl
@[simp] theorem State.aluOr_env (v : Byte) : (s.aluOr v).env = s.env := rfl
@[simp] theorem State.aluOr_draws (v : Byte) : (s.aluOr v).draws = s.draws + 1 := rfl

/-! ### `rotA` -/

@[simp] theorem State.rotA_b (k : Rot) : (s.rotA k).b = s.b := rfl
@[simp] theorem State.rotA_c (k : Rot) : (s.rotA k).c = s.c := rfl
@[simp] theorem State.rotA_d (k : Rot) : (s.rotA k).d = s.d := rfl
@[simp] theorem State.rotA_e (k : Rot) : (s.rotA k).e = s.e := rfl
@[simp] theorem State.rotA_h (k : Rot) : (s.rotA k).h = s.h := rfl
@[simp] theorem State.rotA_l (k : Rot) : (s.rotA k).l = s.l := rfl
@[simp] theorem State.rotA_a' (k : Rot) : (s.rotA k).a' = s.a' := rfl
@[simp] theorem State.rotA_f' (k : Rot) : (s.rotA k).f' = s.f' := rfl
@[simp] theorem State.rotA_b' (k : Rot) : (s.rotA k).b' = s.b' := rfl
@[simp] theorem State.rotA_c' (k : Rot) : (s.rotA k).c' = s.c' := rfl
@[simp] theorem State.rotA_d' (k : Rot) : (s.rotA k).d' = s.d' := rfl
@[simp] theorem State.rotA_e' (k : Rot) : (s.rotA k).e' = s.e' := rfl
@[simp] theorem State.rotA_h' (k : Rot) : (s.rotA k).h' = s.h' := rfl
@[simp] theorem State.rotA_l' (k : Rot) : (s.rotA k).l' = s.l' := rfl
@[simp] theorem State.rotA_ix (k : Rot) : (s.rotA k).ix = s.ix := rfl
@[simp] theorem State.rotA_iy (k : Rot) : (s.rotA k).iy = s.iy := rfl
@[simp] theorem State.rotA_sp (k : Rot) : (s.rotA k).sp = s.sp := rfl
@[simp] theorem State.rotA_pc (k : Rot) : (s.rotA k).pc = s.pc := rfl
@[simp] theorem State.rotA_i (k : Rot) : (s.rotA k).i = s.i := rfl
@[simp] theorem State.rotA_r (k : Rot) : (s.rotA k).r = s.r := rfl
@[simp] theorem State.rotA_iff1 (k : Rot) : (s.rotA k).iff1 = s.iff1 := rfl
@[simp] theorem State.rotA_iff2 (k : Rot) : (s.rotA k).iff2 = s.iff2 := rfl
@[simp] theorem State.rotA_im (k : Rot) : (s.rotA k).im = s.im := rfl
@[simp] theorem State.rotA_halted (k : Rot) : (s.rotA k).halted = s.halted := rfl
@[simp] theorem State.rotA_eiShadow (k : Rot) : (s.rotA k).eiShadow = s.eiShadow := rfl
@[simp] theorem State.rotA_nmiLatch (k : Rot) : (s.rotA k).nmiLatch = s.nmiLatch := rfl
@[simp] theorem State.rotA_clock (k : Rot) : (s.rotA k).clock = s.clock := rfl
@[simp] theorem State.rotA_mem (k : Rot) : (s.rotA k).mem = s.mem := rfl
@[simp] theorem State.rotA_ioLog (k : Rot) : (s.rotA k).ioLog = s.ioLog := rfl
@[simp] theorem State.rotA_dbg (k : Rot) : (s.rotA k).dbg = s.dbg := rfl
@[simp] theorem State.rotA_faulted (k : Rot) : (s.rotA k).faulted = s.faulted := rfl
@[simp] theorem State.rotA_refused (k : Rot) : (s.rotA k).refused = s.refused := rfl
@[simp] theorem State.rotA_unset (k : Rot) : (s.rotA k).unset = s.unset := rfl
@[simp] theorem State.rotA_cfg (k : Rot) : (s.rotA k).cfg = s.cfg := rfl
@[simp] theorem State.rotA_env (k : Rot) : (s.rotA k).env = s.env := rfl
@[simp] theorem State.rotA_draws (k : Rot) : (s.rotA k).draws = s.draws + 1 := rfl

/-! ### `rotCopy` -/

@[simp] theorem State.rotCopy_a' (k : Rot) (x : Idx) (d : Byte) (r : Reg8) : (s.rotCopy k x d r).a' = s.a' := by simp [State.rotCopy]
@[simp] theorem State.rotCopy_f' (k : Rot) (x : Idx) (d : Byte) (r : Reg8) : (s.rotCopy k x d r).f' = s.f' := by simp [State.rotCopy]
@[simp] theorem State.rotCopy_b' (k : Rot) (x : Idx) (d : Byte) (r : Reg8) : (s.rotCopy k x d r).b' = s.b' := by simp [State.rotCopy]
@[simp] theorem State.rotCopy_c' (k : Rot) (x : Idx) (d : Byte) (r : Reg8) : (s.rotCopy k x d r).c' = s.c' := by simp [State.rotCopy]
@[simp] theorem State.rotCopy_d' (k : Rot) (x : Idx) (d : Byte) (r : Reg8) : (s.rotCopy k x d r).d' = s.d' := by simp [State.rotCopy]
@[simp] theorem State.rotCopy_e' (k : Rot) (x : Idx) (d : Byte) (r : Reg8) : (s.rotCopy k x d r).e' = s.e' := by simp [State.rotCopy]
@[simp] theorem State.rotCopy_h' (k : Rot) (x : Idx) (d : Byte) (r : Reg8) : (s.rotCopy k x d r).h' = s.h' := by simp [State.rotCopy]
@[simp] theorem State.rotCopy_l' (k : Rot) (x : Idx) (d : Byte) (r : Reg8) : (s.rotCopy k x d r).l' = s.l' := by simp [State.rotCopy]
@[simp] theorem State.rotCopy_ix (k : Rot) (x : Idx) (d : Byte) (r : Reg8) : (s.rotCopy k x d r).ix = s.ix := by simp [State.rotCopy]
@[simp] theorem State.rotCopy_iy (k : Rot) (x : Idx) (d : Byte) (r : Reg8) : (s.rotCopy k x d r).iy = s.iy := by simp [State.rotCopy]
@[simp] theorem State.rotCopy_sp (k : Rot) (x : Idx) (d : Byte) (r : Reg8) : (s.rotCopy k x d r).sp = s.sp := by simp [State.rotCopy]
@[simp] theorem State.rotCopy_pc (k : Rot) (x : Idx) (d : Byte) (r : Reg8) : (s.rotCopy k x d r).pc = s.pc := by simp [State.rotCopy]
@[simp] theorem State.rotCopy_i (k : Rot) (x : Idx) (d : Byte) (r : Reg8) : (s.rotCopy k x d r).i = s.i := by simp [State.rotCopy]
@[simp] theorem State.rotCopy_r (k : Rot) (x : Idx) (d : Byte) (r : Reg8) : (s.rotCopy k x d r).r = s.r := by simp [State.rotCopy]
@[simp] theorem State.rotCopy_iff1 (k : Rot) (x : Idx) (d : Byte) (r : Reg8) : (s.rotCopy k x d r).iff1 = s.iff1 := by simp [State.rotCopy]
@[simp] theorem State.rotCopy_iff2 (k : Rot) (x : Idx) (d : Byte) (r : Reg8) : (s.rotCopy k x d r).iff2 = s.iff2 := by simp [State.rotCopy]
@[simp] theorem State.rotCopy_im (k : Rot) (x : Idx) (d : Byte) (r : Reg8) : (s.rotCopy k x d r).im = s.im := by simp [State.rotCopy]
@[simp] theorem State.rotCopy_halted (k : Rot) (x : Idx) (d : Byte) (r : Reg8) : (s.rotCopy k x d r).halted = s.halted := by simp [State.rotCopy]
@[simp] theorem State.rotCopy_eiShadow (k : Rot) (x : Idx) (d : Byte) (r : Reg8) : (s.rotCopy k x d r).eiShadow = s.eiShadow := by simp [State.rotCopy]
@[simp] theorem State.rotCopy_nmiLatch (k : Rot) (x : Idx) (d : Byte) (r : Reg8) : (s.rotCopy k x d r).nmiLatch = s.nmiLatch := by simp [State.rotCopy]
@[simp] theorem State.rotCopy_clock (k : Rot) (x : Idx) (d : Byte) (r : Reg8) : (s.rotCopy k x d r).clock = s.clock := by simp [State.rotCopy]
@[simp] theorem State.rotCopy_ioLog (k : Rot) (x : Idx) (d : Byte) (r : Reg8) : (s.rotCopy k x d r).ioLog = s.ioLog := by simp [State.rotCopy]
@[simp] theorem State.rotCopy_dbg (k : Rot) (x : Idx) (d : Byte) (r : Reg8) : (s.rotCopy k x d r).dbg = s.dbg := by simp [State.rotCopy]
@[simp] theorem State.rotCopy_faulted (k : Rot) (x : Idx) (d : Byte) (r : Reg8) : (s.rotCopy k x d r).faulted = s.faulted := by simp [State.rotCopy]
@[simp] theorem State.rotCopy_refused (k : Rot) (x : Idx) (d : Byte) (r : Reg8) : (s.rotCopy k x d r).refused = s.refused := by simp [State.rotCopy]
@[simp] theorem State.rotCopy_unset (k : Rot) (x : Idx) (d : Byte) (r : Reg8) : (s.rotCopy k x d r).unset = s.unset := by simp [State.rotCopy]
@[simp] theorem State.rotCopy_cfg (k : Rot) (x : Idx) (d : Byte) (r : Reg8) : (s.rotCopy k x d r).cfg = s.cfg := by simp [State.rotCopy]
@[simp] theorem State.rotCopy_env (k : Rot) (x : Idx) (d : Byte) (r : Reg8) : (s.rotCopy k x d r).env = s.env := by simp [State.rotCopy]
@[simp] theorem State.rotCopy_draws (k : Rot) (x : Idx) (d : Byte) (r : Reg8) : (s.rotCopy k x d r).draws = s.draws + 1 := by simp [State.rotCopy]

/-! ### `blockLoad` -/

@[simp] theorem State.blockLoad_a (w : Word) : (s.blockLoad w).a = s.a := by simp [State.blockLoad]
@[simp] theorem State.blockLoad_a' (w : Word) : (s.blockLoad w).a' = s.a' := by simp [State.blockLoad]
@[simp] theorem State.blockLoad_f' (w : Word) : (s.blockLoad w).f' = s.f' := by simp [State.blockLoad]
@[simp] theorem State.blockLoad_b' (w : Word) : (s.blockLoad w).b' = s.b' := by simp [State.blockLoad]
@[simp] theorem State.blockLoad_c' (w : Word) : (s.blockLoad w).c' = s.c' := by simp [State.blockLoad]
@[simp] theorem State.blockLoad_d' (w : Word) : (s.blockLoad w).d' = s.d' := by simp [State.blockLoad]
@[simp] theorem State.blockLoad_e' (w : Word) : (s.blockLoad w).e' = s.e' := by simp [State.blockLoad]
@[simp] theorem State.blockLoad_h' (w : Word) : (s.blockLoad w).h' = s.h' := by simp [State.blockLoad]
@[simp] theorem State.blockLoad_l' (w : Word) : (s.blockLoad w).l' = s.l' := by simp [State.blockLoad]
@[simp] theorem State.blockLoad_ix (w : Word) : (s.blockLoad w).ix = s.ix := by simp [State.blockLoad]
@[simp] theorem State.blockLoad_iy (w : Word) : (s.blockLoad w).iy = s.iy := by simp [State.blockLoad]
@[simp] theorem State.blockLoad_sp (w : Word) : (s.blockLoad w).sp = s.sp := by simp [State.blockLoad]
@[simp] theorem State.blockLoad_pc (w : Word) : (s.blockLoad w).pc = s.pc := by simp [State.blockLoad]
@[simp] theorem State.blockLoad_i (w : Word) : (s.blockLoad w).i = s.i := by simp [State.blockLoad]
@[simp] theorem State.blockLoad_r (w : Word) : (s.blockLoad w).r = s.r := by simp [State.blockLoad]
@[simp] theorem State.blockLoad_iff1 (w : Word) : (s.blockLoad w).iff1 = s.iff1 := by simp [State.blockLoad]
@[simp] theorem State.blockLoad_iff2 (w : Word) : (s.blockLoad w).iff2 = s.iff2 := by simp [State.blockLoad]
@[simp] theorem State.blockLoad_im (w : Word) : (s.blockLoad w).im = s.im := by simp [State.blockLoad]
@[simp] theorem State.blockLoad_halted (w : Word) : (s.blockLoad w).halted = s.halted := by simp [State.blockLoad]
@[simp] theorem State.blockLoad_eiShadow (w : Word) : (s.blockLoad w).eiShadow = s.eiShadow := by simp [State.blockLoad]
@[simp] theorem State.blockLoad_nmiLatch (w : Word) : (s.blockLoad w).nmiLatch = s.nmiLatch := by simp [State.blockLoad]
@[simp] theorem State.blockLoad_clock (w : Word) : (s.blockLoad w).clock = s.clock := by simp [State.blockLoad]
@[simp] theorem State.blockLoad_ioLog (w : Word) : (s.blockLoad w).ioLog = s.ioLog := by simp [State.blockLoad]
@[simp] theorem State.blockLoad_dbg (w : Word) : (s.blockLoad w).dbg = s.dbg := by simp [State.blockLoad]
@[simp] theorem State.blockLoad_faulted (w : Word) : (s.blockLoad w).faulted = s.faulted := by simp [State.blockLoad]
@[simp] theorem State.blockLoad_refused (w : Word) : (s.blockLoad w).refused = s.refused := by simp [State.blockLoad]
@[simp] theorem State.blockLoad_unset (w : Word) : (s.blockLoad w).unset = s.unset := by simp [State.blockLoad]
@[simp] theorem State.blockLoad_cfg (w : Word) : (s.blockLoad w).cfg = s.cfg := by simp [State.blockLoad]
@[simp] theorem State.blockLoad_env (w : Word) : (s.blockLoad w).env = s.env := by simp [State.blockLoad]
@[simp] theorem State.blockLoad_draws (w : Word) : (s.blockLoad w).draws = s.draws + 1 := by simp [State.blockLoad]

/-! ### `blockSearch` -/

@[simp] theorem State.blockSearch_a (w : Word) : (s.blockSearch w).a = s.a := rfl
@[simp] theorem State.blockSearch_d (w : Word) : (s.blockSearch w).d = s.d := rfl
@[simp] theorem State.blockSearch_e (w : Word) : (s.blockSearch w).e = s.e := rfl
@[simp] theorem State.blockSearch_a' (w : Word) : (s.blockSearch w).a' = s.a' := rfl
@[simp] theorem State.blockSearch_f' (w : Word) : (s.blockSearch w).f' = s.f' := rfl
@[simp] theorem State.blockSearch_b' (w : Word) : (s.blockSearch w).b' = s.b' := rfl
@[simp] theorem State.blockSearch_c' (w : Word) : (s.blockSearch w).c' = s.c' := rfl
@[simp] theorem State.blockSearch_d' (w : Word) : (s.blockSearch w).d' = s.d' := rfl
@[simp] theorem State.blockSearch_e' (w : Word) : (s.blockSearch w).e' = s.e' := rfl
@[simp] theorem State.blockSearch_h' (w : Word) : (s.blockSearch w).h' = s.h' := rfl
@[simp] theorem State.blockSearch_l' (w : Word) : (s.blockSearch w).l' = s.l' := rfl
@[simp] theorem State.blockSearch_ix (w : Word) : (s.blockSearch w).ix = s.ix := rfl
@[simp] theorem State.blockSearch_iy (w : Word) : (s.blockSearch w).iy = s.iy := rfl
@[simp] theorem State.blockSearch_sp (w : Word) : (s.blockSearch w).sp = s.sp := rfl
@[simp] theorem State.blockSearch_pc (w : Word) : (s.blockSearch w).pc = s.pc := rfl
@[simp] theorem State.blockSearch_i (w : Word) : (s.blockSearch w).i = s.i := rfl
@[simp] theorem State.blockSearch_r (w : Word) : (s.blockSearch w).r = s.r := rfl
@[simp] theorem State.blockSearch_iff1 (w : Word) : (s.blockSearch w).iff1 = s.iff1 := rfl
@[simp] theorem State.blockSearch_iff2 (w : Word) : (s.blockSearch w).iff2 = s.iff2 := rfl
@[simp] theorem State.blockSearch_im (w : Word) : (s.blockSearch w).im = s.im := rfl
@[simp] theorem State.blockSearch_halted (w : Word) : (s.blockSearch w).halted = s.halted := rfl
@[simp] theorem State.blockSearch_eiShadow (w : Word) : (s.blockSearch w).eiShadow = s.eiShadow := rfl
@[simp] theorem State.blockSearch_nmiLatch (w : Word) : (s.blockSearch w).nmiLatch = s.nmiLatch := rfl
@[simp] theorem State.blockSearch_clock (w : Word) : (s.blockSearch w).clock = s.clock := rfl
@[simp] theorem State.blockSearch_mem (w : Word) : (s.blockSearch w).mem = s.mem := rfl
@[simp] theorem State.blockSearch_ioLog (w : Word) : (s.blockSearch w).ioLog = s.ioLog := rfl
@[simp] theorem State.blockSearch_dbg (w : Word) : (s.blockSearch w).dbg = s.dbg := rfl
@[simp] theorem State.blockSearch_faulted (w : Word) : (s.blockSearch w).faulted = s.faulted := rfl
@[simp] theorem State.blockSearch_refused (w : Word) : (s.blockSearch w).refused = s.refused := rfl
@[simp] theorem State.blockSearch_unset (w : Word) : (s.blockSearch w).unset = s.unset := rfl
@[simp] theorem State.blockSearch_cfg (w : Word) : (s.blockSearch w).cfg = s.cfg := rfl
@[simp] theorem State.blockSearch_env (w : Word) : (s.blockSearch w).env = s.env := rfl
@[simp] theorem State.blockSearch_draws (w : Word) : (s.blockSearch w).draws = s.draws + 1 := rfl

/-! ### `blockIn` -/

@[simp] theorem State.blockIn_a (v : Byte) : (s.blockIn v).a = s.a := by simp [State.blockIn]
@[simp] theorem State.blockIn_b (v : Byte) : (s.blockIn v).b = s.b - 1 := by simp [State.blockIn]
@[simp] theorem State.blockIn_c (v : Byte) : (s.blockIn v).c = s.c := by simp [State.blockIn]
@[simp] theorem State.blockIn_d (v : Byte) : (s.blockIn v).d = s.d := by simp [State.blockIn]
@[simp] theorem State.blockIn_e (v : Byte) : (s.blockIn v).e = s.e := by simp [State.blockIn]
@[simp] theorem State.blockIn_a' (v : Byte) : (s.blockIn v).a' = s.a' := by simp [State.blockIn]
@[simp] theorem State.blockIn_f' (v : Byte) : (s.blockIn v).f' = s.f' := by simp [State.blockIn]
@[simp] theorem State.blockIn_b' (v : Byte) : (s.blockIn v).b' = s.b' := by simp [State.blockIn]
@[simp] theorem State.blockIn_c' (v : Byte) : (s.blockIn v).c' = s.c' := by simp [State.blockIn]
@[simp] theorem State.blockIn_d' (v : Byte) : (s.blockIn v).d' = s.d' := by simp [State.blockIn]
@[simp] theorem State.blockIn_e' (v : Byte) : (s.blockIn v).e' = s.e' := by simp [State.blockIn]
@[simp] theorem State.blockIn_h' (v : Byte) : (s.blockIn v).h' = s.h' := by simp [State.blockIn]
@[simp] theorem State.blockIn_l' (v : Byte) : (s.blockIn v).l' = s.l' := by simp [State.blockIn]
@[simp] theorem State.blockIn_ix (v : Byte) : (s.blockIn v).ix = s.ix := by simp [State.blockIn]
@[simp] theorem State.blockIn_iy (v : Byte) : (s.blockIn v).iy = s.iy := by simp [State.blockIn]
@[simp] theorem State.blockIn_sp (v : Byte) : (s.blockIn v).sp = s.sp := by simp [State.blockIn]
@[simp] theorem State.blockIn_pc (v : Byte) : (s.blockIn v).pc = s.pc := by simp [State.blockIn]
@[simp] theorem State.blockIn_i (v : Byte) : (s.blockIn v).i = s.i := by simp [State.blockIn]
@[simp] theorem State.blockIn_r (v : Byte) : (s.blockIn v).r = s.r := by simp [State.blockIn]
@[simp] theorem State.blockIn_iff1 (v : Byte) : (s.blockIn v).iff1 = s.iff1 := by simp [State.blockIn]
@[simp] theorem State.blockIn_iff2 (v : Byte) : (s.blockIn v).iff2 = s.iff2 := by simp [State.blockIn]
@[simp] theorem State.blockIn_im (v : Byte) : (s.blockIn v).im = s.im := by simp [State.blockIn]
@[simp] theorem State.blockIn_halted (v : Byte) : (s.blockIn v).halted = s.halted := by simp [State.blockIn]
@[simp] theorem State.blockIn_eiShadow (v : Byte) : (s.blockIn v).eiShadow = s.eiShadow := by simp [State.blockIn]
@[simp] theorem State.blockIn_nmiLatch (v : Byte) : (s.blockIn v).nmiLatch = s.nmiLatch := by simp [State.blockIn]
@[simp] theorem State.blockIn_clock (v : Byte) : (s.blockIn v).clock = s.clock := by simp [State.blockIn]
@[simp] theorem State.blockIn_ioLog (v : Byte) : (s.blockIn v).ioLog = s.ioLog ++ [⟨.input, s.bc, s.portValue s.bc, s.clock⟩] := by simp [State.blockIn]
@[simp] theorem State.blockIn_dbg (v : Byte) : (s.blockIn v).dbg = s.dbg := by simp [State.blockIn]
@[simp] theorem State.blockIn_faulted (v : Byte) : (s.blockIn v).faulted = s.faulted := by simp [State.blockIn]
@[simp] theorem State.blockIn_refused (v : Byte) : (s.blockIn v).refused = s.refused := by simp [State.blockIn]
@[simp] theorem State.blockIn_unset (v : Byte) : (s.blockIn v).unset = s.unset := by simp [State.blockIn]
@[simp] theorem State.blockIn_cfg (v : Byte) : (s.blockIn v).cfg = s.cfg := by simp [State.blockIn]
@[simp] theorem State.blockIn_env (v : Byte) : (s.blockIn v).env = { s.env with port := s.env.port.next } := by simp [State.blockIn]
@[simp] theorem State.blockIn_draws (v : Byte) : (s.blockIn v).draws = s.draws + 1 := by simp [State.blockIn]

/-! ### `blockOut` -/

@[simp] theorem State.blockOut_a (v : Byte) : (s.blockOut v).a = s.a := rfl
@[simp] theorem State.blockOut_b (v : Byte) : (s.blockOut v).b = s.b - 1 := rfl
@[simp] theorem State.blockOut_c (v : Byte) : (s.blockOut v).c = s.c := rfl
@[simp] theorem State.blockOut_d (v : Byte) : (s.blockOut v).d = s.d := rfl
@[simp] theorem State.blockOut_e (v : Byte) : (s.blockOut v).e = s.e := rfl
@[simp] theorem State.blockOut_a' (v : Byte) : (s.blockOut v).a' = s.a' := rfl
@[simp] theorem State.blockOut_f' (v : Byte) : (s.blockOut v).f' = s.f' := rfl
@[simp] theorem State.blockOut_b' (v : Byte) : (s.blockOut v).b' = s.b' := rfl
@[simp] theorem State.blockOut_c' (v : Byte) : (s.blockOut v).c' = s.c' := rfl
@[simp] theorem State.blockOut_d' (v : Byte) : (s.blockOut v).d' = s.d' := rfl
@[simp] theorem State.blockOut_e' (v : Byte) : (s.blockOut v).e' = s.e' := rfl
@[simp] theorem State.blockOut_h' (v : Byte) : (s.blockOut v).h' = s.h' := rfl
@[simp] theorem State.blockOut_l' (v : Byte) : (s.blockOut v).l' = s.l' := rfl
@[simp] theorem State.blockOut_ix (v : Byte) : (s.blockOut v).ix = s.ix := rfl
@[simp] theorem State.blockOut_iy (v : Byte) : (s.blockOut v).iy = s.iy := rfl
@[simp] theorem State.blockOut_sp (v : Byte) : (s.blockOut v).sp = s.sp := rfl
@[simp] theorem State.blockOut_pc (v : Byte) : (s.blockOut v).pc = s.pc := rfl
@[simp] theorem State.blockOut_i (v : Byte) : (s.blockOut v).i = s.i := rfl
@[simp] theorem State.blockOut_r (v : Byte) : (s.blockOut v).r = s.r := rfl
@[simp] theorem State.blockOut_iff1 (v : Byte) : (s.blockOut v).iff1 = s.iff1 := rfl
@[simp] theorem State.blockOut_iff2 (v : Byte) : (s.blockOut v).iff2 = s.iff2 := rfl
@[simp] theorem State.blockOut_im (v : Byte) : (s.blockOut v).im = s.im := rfl
@[simp] theorem State.blockOut_halted (v : Byte) : (s.blockOut v).halted = s.halted := rfl
@[simp] theorem State.blockOut_eiShadow (v : Byte) : (s.blockOut v).eiShadow = s.eiShadow := rfl
@[simp] theorem State.blockOut_nmiLatch (v : Byte) : (s.blockOut v).nmiLatch = s.nmiLatch := rfl
@[simp] theorem State.blockOut_clock (v : Byte) : (s.blockOut v).clock = s.clock := rfl
@[simp] theorem State.blockOut_mem (v : Byte) : (s.blockOut v).mem = s.mem := rfl
@[simp] theorem State.blockOut_ioLog (v : Byte) : (s.blockOut v).ioLog = s.ioLog ++ [⟨.output, join (s.b - 1) s.c, s.memRead s.hl, s.clock⟩] := rfl
@[simp] theorem State.blockOut_dbg (v : Byte) : (s.blockOut v).dbg = s.dbg := rfl
@[simp] theorem State.blockOut_faulted (v : Byte) : (s.blockOut v).faulted = s.faulted := rfl
@[simp] theorem State.blockOut_refused (v : Byte) : (s.blockOut v).refused = s.refused := rfl
@[simp] theorem State.blockOut_unset (v : Byte) : (s.blockOut v).unset = s.unset := rfl
@[simp] theorem State.blockOut_cfg (v : Byte) : (s.blockOut v).cfg = s.cfg := rfl
@[simp] theorem State.blockOut_env (v : Byte) : (s.blockOut v).env = s.env := rfl
@[simp] theorem State.blockOut_draws (v : Byte) : (s.blockOut v).draws = s.draws + 1 := rfl

/-! ### Equality of states -/

/-- Two states with the same fields are one. -/
theorem State.eq_of_fields {s t : State}
    (ha_ : s.a = t.a) (hf_ : s.f = t.f) (hb_ : s.b = t.b) (hc_ : s.c = t.c) (hd_ : s.d = t.d) (he_ : s.e =
    t.e) (hh_ : s.h = t.h) (hl_ : s.l = t.l) (hax_ : s.a' = t.a') (hfx_ : s.f' = t.f') (hbx_ : s.b' = t.b')
    (hcx_ : s.c' = t.c') (hdx_ : s.d' = t.d') (hex_ : s.e' = t.e') (hhx_ : s.h' = t.h') (hlx_ : s.l' = t.l')
    (hix_ : s.ix = t.ix) (hiy_ : s.iy = t.iy) (hsp_ : s.sp = t.sp) (hpc_ : s.pc = t.pc) (hi_ : s.i = t.i)
    (hr_ : s.r = t.r) (hiff1_ : s.iff1 = t.iff1) (hiff2_ : s.iff2 = t.iff2) (him_ : s.im = t.im) (hhalted_ :
    s.halted = t.halted) (heiShadow_ : s.eiShadow = t.eiShadow) (hnmiLatch_ : s.nmiLatch = t.nmiLatch) (hclock_
    : s.clock = t.clock) (hmem_ : s.mem = t.mem) (hioLog_ : s.ioLog = t.ioLog) (hdbg_ : s.dbg = t.dbg)
    (hfaulted_ : s.faulted = t.faulted) (hrefused_ : s.refused = t.refused) (hunset_ : s.unset = t.unset)
    (hcfg_ : s.cfg = t.cfg) (henv_ : s.env = t.env) (hdraws_ : s.draws = t.draws) : s = t := by
  cases s; cases t; simp_all

/-! ### Reading back the register file -/

/-- A read of the register written gives the value; every other register keeps its own (R41). -/
theorem reg8_setReg8 (k j : Reg8) (v : Byte) : (s.setReg8 k v).reg8 j = if j = k then v else s.reg8 j := by
  cases k <;> cases j <;> rfl

/-- A read of the index register written gives the value; the other keeps its own (R48). -/
theorem idx_setIdx (x y : Idx) (w : Word) : (s.setIdx x w).idx y = if y = x then w else s.idx y := by
  cases x <;> cases y <;> rfl

end Sys2Proof.Machine
end

