-- ==== Sys2Proof/Laws/Flags.lean ====
section
/-!
SUPPORT. Sys2Proof/Laws/Flags.lean: what a write of F leaves in each flag, and the arithmetic primitives of Flags.lean in the
numbers of Safety.lean.
-/

namespace Sys2Proof.Machine

/-! ### Bits as numbers -/

theorem testBit_eq_bitOf (n j : Nat) : n.testBit j = bitOf n j := by
  rw [Nat.testBit_eq_decide_div_mod_eq]; rfl

theorem getLsbD_eq_bitOf {w : Nat} (v : BitVec w) (j : Nat) : v.getLsbD j = bitOf v.toNat j := testBit_eq_bitOf _ _

theorem getLsbD_ofNat8 (n j : Nat) (h : j < 8) : (BitVec.ofNat 8 n).getLsbD j = bitOf n j := by
  rw [BitVec.getLsbD_ofNat, testBit_eq_bitOf]; simp [h]

theorem getLsbD_ofNat16 (n j : Nat) (h : j < 16) : (BitVec.ofNat 16 n).getLsbD j = bitOf n j := by
  rw [BitVec.getLsbD_ofNat, testBit_eq_bitOf]; simp [h]

/-- `parity` of the bits is the count of the one bits (R10). -/
theorem parity_eq (v : Byte) : parity v = evenOnes v := by
  revert v; decide

/-! ### A write of F -/

/-- The flag of a record of flag bits. -/
def FlagBits.get (k : FlagBits) : Flag → Bool
  | .s => k.s | .z => k.z | .y => k.y | .h => k.h | .x => k.x | .pv => k.pv | .n => k.n | .c => k.c

/-- The byte of flag bits holds them where R45 says. -/
@[simp] theorem FlagBits.getLsbD_pack (k : FlagBits) (g : Flag) : k.pack.getLsbD g.bit = k.get g := by
  obtain ⟨s, z, y, h, x, pv, n, c⟩ := k
  cases g <;> simp only [FlagBits.pack, Flag.bit, FlagBits.get, BitVec.getLsbD_append] <;> simp

@[simp] theorem FlagBits.get_ofByte (f : Byte) (g : Flag) : (FlagBits.ofByte f).get g = f.getLsbD g.bit := by
  cases g <;> rfl

theorem getLsbD_mixFree (mask silicon free : Byte) (g : Flag) :
    (mixFree mask silicon free).getLsbD g.bit =
      if mask.getLsbD g.bit then free.getLsbD g.bit else silicon.getLsbD g.bit := by
  have h : g.bit < 8 := by cases g <;> decide
  unfold mixFree
  split
  · simp_all
  · simp only [BitVec.getLsbD_or, BitVec.getLsbD_and, BitVec.getLsbD_not, h, decide_true, Bool.true_and]
    cases mask.getLsbD g.bit <;> simp

/-- The flags after a write of F: a drawn bit is free, every other is the rule's (R10). -/
theorem State.flag_writeFlags (s : State) (undoc draws silicon : Byte) (g : Flag) :
    (s.writeFlags undoc draws silicon).flag g =
      if (s.drawnBits undoc draws).getLsbD g.bit then (Config.freeFlags s.draws).getLsbD g.bit else silicon.getLsbD g.bit :=
  getLsbD_mixFree _ _ _ _

/-- A write of F leaves the flags as `k` says, where the rule's byte does: what every instruction that writes F does to it. -/
theorem flagsFollow_writeFlags {s u t : State} {undoc draws silicon : Byte} {k : Flag → Bool} {us ds : List Flag}
    (hf : t.f = (u.writeFlags undoc draws silicon).f) (hc : u.cfg = s.cfg)
    (hu : ∀ g, g ∉ us → undoc.getLsbD g.bit = false) (hd : ∀ g, g ∉ ds → draws.getLsbD g.bit = false)
    (hk : ∀ g, g ∉ ds → silicon.getLsbD g.bit = k g) : FlagsFollow s t k us ds := by
  intro g hg hp
  have e : t.flag g = (u.writeFlags undoc draws silicon).flag g := by simp only [State.flag, hf]
  rw [e, State.flag_writeFlags, ← hk g hg, if_neg]
  unfold State.drawnBits
  rw [hc]
  rcases hp with hp | hp
  · simp [hp, hd g hg]
  · cases s.cfg.xyPolicy <;> simp [BitVec.getLsbD_or, hd g hg, hu g hp]

/-- Every flag but Y and X is documented, and no flag is drawn: the masks of most writes. -/
theorem maskXY_documented (g : Flag) (h : g ∉ flagsYX) : maskXY.getLsbD g.bit = false := by
  revert h; cases g <;> decide

theorem zero_draws (g : Flag) (ds : List Flag) (_ : g ∉ ds) : (0 : Byte).getLsbD g.bit = false := by simp

/-! ### 8-bit arithmetic in numbers (R300 to R303) -/

theorem toInt8 (a : Byte) : a.toInt = if a.toNat < 128 then (a.toNat : Int) else (a.toNat : Int) - 256 := by
  rw [BitVec.toInt_eq_toNat_cond]; have := a.isLt; split <;> split <;> omega

theorem toInt16 (a : Word) : a.toInt = if a.toNat < 32768 then (a.toNat : Int) else (a.toNat : Int) - 65536 := by
  rw [BitVec.toInt_eq_toNat_cond]; have := a.isLt; split <;> split <;> omega

theorem bit7 (a : Byte) : a.getLsbD 7 = decide (128 ≤ a.toNat) := by
  rw [getLsbD_eq_bitOf, bitOf]; have := a.isLt; congr 1; simp; omega

theorem bit15 (a : Word) : a.getLsbD 15 = decide (32768 ≤ a.toNat) := by
  rw [getLsbD_eq_bitOf, bitOf]; have := a.isLt; congr 1; simp; omega

theorem beq_zero8 (v : Byte) : (v == 0) = decide (v.toNat = 0) := by
  rw [Bool.eq_iff_iff]; simp [← BitVec.toNat_inj]

theorem beq_zero16 (v : Word) : (v == 0) = decide (v.toNat = 0) := by
  rw [Bool.eq_iff_iff]; simp [← BitVec.toNat_inj]

@[simp] theorem add8_fst (a b : Byte) (c : Bool) : (add8 a b c).1 = BitVec.ofNat 8 (a.toNat + b.toNat + c.toNat) := rfl

/-- The overflow of a sum, by the signs (R300). -/
theorem overflow_add8 (a b : Byte) (n : Nat) (c : Bool) (h : n = a.toNat + b.toNat + c.toNat) :
    (a.getLsbD 7 == b.getLsbD 7 && bitOf n 7 != a.getLsbD 7) = overflows8 (a.toInt + b.toInt + c.toNat) := by
  have ha := a.isLt; have hb := b.isLt; have hc := c.toNat_le
  rw [Bool.eq_iff_iff]
  simp only [bit7, bitOf, overflows8, toInt8, Nat.reducePow, Bool.and_eq_true, beq_iff_eq, bne_iff_ne, ne_eq,
    decide_eq_decide, decide_eq_true_eq, Bool.or_eq_true]
  split <;> split <;> omega

/-- The overflow of a difference, by the signs (R301). -/
theorem overflow_sub8 (a b : Byte) (n : Nat) (c : Bool) (h : n = 512 + a.toNat - b.toNat - c.toNat) :
    (a.getLsbD 7 != b.getLsbD 7 && bitOf n 7 != a.getLsbD 7) = overflows8 (a.toInt - b.toInt - c.toNat) := by
  have ha := a.isLt; have hb := b.isLt; have hc := c.toNat_le
  rw [Bool.eq_iff_iff]
  simp only [bit7, bitOf, overflows8, toInt8, Nat.reducePow, Bool.and_eq_true, bne_iff_ne, ne_eq,
    decide_eq_decide, decide_eq_true_eq, Bool.or_eq_true]
  split <;> split <;> omega

theorem overflow_add16 (a b : Word) (n : Nat) (c : Bool) (h : n = a.toNat + b.toNat + c.toNat) :
    (a.getLsbD 15 == b.getLsbD 15 && bitOf n 15 != a.getLsbD 15) = overflows16 (a.toInt + b.toInt + c.toNat) := by
  have ha := a.isLt; have hb := b.isLt; have hc := c.toNat_le
  rw [Bool.eq_iff_iff]
  simp only [bit15, bitOf, overflows16, toInt16, Nat.reducePow, Bool.and_eq_true, beq_iff_eq, bne_iff_ne, ne_eq,
    decide_eq_decide, decide_eq_true_eq, Bool.or_eq_true]
  split <;> split <;> omega

theorem overflow_sub16 (a b : Word) (n : Nat) (c : Bool) (h : n = 131072 + a.toNat - b.toNat - c.toNat) :
    (a.getLsbD 15 != b.getLsbD 15 && bitOf n 15 != a.getLsbD 15) = overflows16 (a.toInt - b.toInt - c.toNat) := by
  have ha := a.isLt; have hb := b.isLt; have hc := c.toNat_le
  rw [Bool.eq_iff_iff]
  simp only [bit15, bitOf, overflows16, toInt16, Nat.reducePow, Bool.and_eq_true, bne_iff_ne, ne_eq,
    decide_eq_decide, decide_eq_true_eq, Bool.or_eq_true]
  split <;> split <;> omega

theorem zero_of_ofNat8 (n : Nat) : (BitVec.ofNat 8 n == 0) = decide (n % 256 = 0) := by
  rw [beq_zero8, BitVec.toNat_ofNat]

theorem zero_of_ofNat16 (n : Nat) : (BitVec.ofNat 16 n == 0) = decide (n % 65536 = 0) := by
  rw [beq_zero16, BitVec.toNat_ofNat]

/-- The flags of `add8` (R300, R304). -/
theorem add8_flags (a b : Byte) (c : Bool) (g : Flag) : (add8 a b c).2.getLsbD g.bit = addFlags a b c g := by
  simp only [add8, FlagBits.getLsbD_pack]
  cases g <;> simp only [FlagBits.get, addFlags, getLsbD_ofNat8, Nat.reduceLT, zero_of_ofNat8, low4,
    overflow_add8 a b _ c rfl, gt_iff_lt]

/-- The difference as a Byte (R301). -/
theorem sub8_fst (a b : Byte) (c : Bool) : (sub8 a b c).1 = BitVec.ofNat 8 (512 + a.toNat - b.toNat - c.toNat) := by
  have ha := a.isLt; have hb := b.isLt; have hc := c.toNat_le
  apply BitVec.eq_of_toNat_eq
  simp only [sub8, BitVec.toNat_sub, BitVec.toNat_ofNat]
  omega

/-- The flags of `sub8` (R301, R304). -/
theorem sub8_flags (a b : Byte) (c : Bool) (g : Flag) : (sub8 a b c).2.getLsbD g.bit = subFlags a b c g := by
  have e := sub8_fst a b c
  simp only [sub8] at e
  simp only [sub8, e, FlagBits.getLsbD_pack]
  cases g <;> simp only [FlagBits.get, subFlags, getLsbD_ofNat8, Nat.reduceLT, zero_of_ofNat8, low4,
    overflow_sub8 a b _ c rfl]
  rfl

/-- S, Z, Y and X of a result, the others given (R302, R390). -/
theorem pack_resultFlags (v : Byte) (h pv n c : Bool) (g : Flag) :
    ({ s := v.getLsbD 7, z := v == 0, y := v.getLsbD 5, h := h, x := v.getLsbD 3, pv := pv, n := n, c := c : FlagBits
      }.pack).getLsbD g.bit = resultFlags v h pv n c g := by
  rw [FlagBits.getLsbD_pack]
  cases g <;> simp only [FlagBits.get, resultFlags, getLsbD_eq_bitOf, beq_zero8]

/-- The flags of `and8`, `or8` and `xor8` (R302). -/
theorem logicFlags_eq (v : Byte) (h : Bool) (g : Flag) :
    (logicFlags v h).getLsbD g.bit = resultFlags v h (evenOnes v) false false g := by
  rw [logicFlags, pack_resultFlags, parity_eq]

/-- The flags `moveFlags` writes (R214, R473). -/
theorem State.moveFlags_follow {s u t : State} (v : Byte) (pv : Bool) (hf : t.f = (u.moveFlags v pv).f) (hu : u.cfg = s.cfg)
    (hF : u.f = s.f) : FlagsFollow s t (resultFlags v false pv false (s.flag .c)) flagsYX [] := by
  refine flagsFollow_writeFlags hf hu (maskXY_documented ·) (zero_draws · _) fun g _ => ?_
  rw [FlagBits.getLsbD_pack]
  cases g <;> simp only [FlagBits.get, FlagBits.ofByte, resultFlags, getLsbD_eq_bitOf, beq_zero8, State.flag, Flag.bit, hF]

theorem State.incResult_eq (s : State) (v : Byte) : s.incResult v = BitVec.ofNat 8 (v.toNat + 1) := by
  rw [BitVec.ofNat_add, BitVec.ofNat_toNat, BitVec.setWidth_eq]; rfl

theorem State.decResult_eq (s : State) (v : Byte) : s.decResult v = BitVec.ofNat 8 (v.toNat + 255) := by
  apply BitVec.eq_of_toNat_eq
  simp only [State.decResult, dec8, BitVec.toNat_sub, BitVec.ofNat_eq_ofNat, BitVec.toNat_ofNat]; omega

/-- The flags of `inc8` (R303). -/
theorem State.incFlags_follow {s u t : State} (v : Byte) (hf : t.f = (u.incFlags v).f) (hu : u.cfg = s.cfg) (hF : u.f = s.f) :
    FlagsFollow s t (stepFlags s v true) flagsYX [] := by
  refine flagsFollow_writeFlags hf hu (maskXY_documented ·) (zero_draws · _) fun g _ => ?_
  have e := u.incResult_eq v
  simp only [State.incResult, inc8] at e
  have hv := v.isLt
  simp only [inc8, FlagBits.getLsbD_pack, e]
  cases g <;> simp only [FlagBits.get, stepFlags, resultFlags, getLsbD_eq_bitOf, beq_zero8, State.flag, Flag.bit, hF, low4,
    if_true, Bool.not_true]
  · rw [Bool.eq_iff_iff]; simp
  · rw [Bool.eq_iff_iff]
    simp only [overflows8, toInt8, beq_iff_eq, ← BitVec.toNat_inj, Bool.or_eq_true, decide_eq_true_eq, BitVec.ofNat_eq_ofNat,
      BitVec.toNat_ofNat]
    split <;> omega

/-- The flags of `dec8` (R303). -/
theorem State.decFlags_follow {s u t : State} (v : Byte) (hf : t.f = (u.decFlags v).f) (hu : u.cfg = s.cfg) (hF : u.f = s.f) :
    FlagsFollow s t (stepFlags s v false) flagsYX [] := by
  refine flagsFollow_writeFlags hf hu (maskXY_documented ·) (zero_draws · _) fun g _ => ?_
  have e := u.decResult_eq v
  simp only [State.decResult, dec8] at e
  have hv := v.isLt
  simp only [dec8, FlagBits.getLsbD_pack, e]
  cases g <;> simp only [FlagBits.get, stepFlags, resultFlags, getLsbD_eq_bitOf, beq_zero8, State.flag, Flag.bit, hF, low4,
    if_false, Bool.not_false, Bool.false_eq_true]
  · rw [Bool.eq_iff_iff]; simp
  · rw [Bool.eq_iff_iff]
    simp only [overflows8, toInt8, beq_iff_eq, ← BitVec.toNat_inj, Bool.or_eq_true, decide_eq_true_eq, BitVec.ofNat_eq_ofNat,
      BitVec.toNat_ofNat]
    split <;> omega

/-- Write A and F with a primitive's answer whose byte of flags is as `k` says. -/
theorem State.setAluA_follow {s u t : State} (p : Byte × Byte) {k : Flag → Bool} (hf : t.f = (u.setAluA p).f)
    (hu : u.cfg = s.cfg) (hk : ∀ g : Flag, p.2.getLsbD g.bit = k g) : FlagsFollow s t k flagsYX [] :=
  flagsFollow_writeFlags hf hu (maskXY_documented ·) (zero_draws · _) fun g _ => hk g

/-- The flags of `CP`: those of a subtraction, with Y and X the operand's (R312). -/
theorem State.aluCp_follow {s u t : State} (v : Byte) (hf : t.f = (u.aluCp v).f) (hu : u.cfg = s.cfg) (ha : u.a = s.a) :
    FlagsFollow s t (fun | .y => bitOf v.toNat 5 | .x => bitOf v.toNat 3 | g => subFlags s.a v false g) flagsYX [] := by
  refine flagsFollow_writeFlags hf hu (maskXY_documented ·) (zero_draws · _) fun g _ => ?_
  rw [FlagBits.getLsbD_pack, ha]
  cases g <;> simp only [FlagBits.get, ← sub8_flags, FlagBits.ofByte, Flag.bit, getLsbD_eq_bitOf]

/-! ### 16-bit arithmetic in numbers (R370) -/

theorem add16_fst (a b : Word) (f : Byte) : (add16 a b f).1 = BitVec.ofNat 16 (a.toNat + b.toNat) := rfl

theorem adc16_fst (a b : Word) (c : Bool) : (adc16 a b c).1 = BitVec.ofNat 16 (a.toNat + b.toNat + c.toNat) := rfl

theorem sbc16_fst (a b : Word) (c : Bool) : (sbc16 a b c).1 = BitVec.ofNat 16 (131072 + a.toNat - b.toNat - c.toNat) := by
  have ha := a.isLt; have hb := b.isLt; have hc := c.toNat_le
  apply BitVec.eq_of_toNat_eq
  simp only [sbc16, BitVec.toNat_sub, BitVec.toNat_ofNat]
  omega

/-- The flags of `add16` (R370). -/
theorem add16_flags (s : State) (a b : Word) (g : Flag) : (add16 a b s.f).2.getLsbD g.bit = wideAddFlags s a b g := by
  simp only [add16, FlagBits.getLsbD_pack]
  cases g <;> simp only [FlagBits.get, FlagBits.ofByte, wideAddFlags, getLsbD_ofNat16, Nat.reduceLT, low12, gt_iff_lt,
    State.flag, Flag.bit]

/-- The flags of `adc16` (R370). -/
theorem adc16_flags (a b : Word) (c : Bool) (g : Flag) : (adc16 a b c).2.getLsbD g.bit = addFlags16 a b c g := by
  simp only [adc16, FlagBits.getLsbD_pack]
  cases g <;> simp only [FlagBits.get, addFlags16, getLsbD_ofNat16, Nat.reduceLT, zero_of_ofNat16, low12,
    overflow_add16 a b _ c rfl, gt_iff_lt]

/-- The flags of `sbc16` (R370). -/
theorem sbc16_flags (a b : Word) (c : Bool) (g : Flag) : (sbc16 a b c).2.getLsbD g.bit = subFlags16 a b c g := by
  have e := sbc16_fst a b c
  simp only [sbc16] at e
  simp only [sbc16, e, FlagBits.getLsbD_pack]
  cases g <;> simp only [FlagBits.get, subFlags16, getLsbD_ofNat16, Nat.reduceLT, zero_of_ofNat16, low12,
    overflow_sub16 a b _ c rfl]
  rfl

/-! ### Rotates, shifts and single bits in numbers (R390, R424, R425) -/

/-- `rot8` in numbers (R390). -/
theorem rot8_eq (k : Rot) (v : Byte) (cin : Bool) : rot8 k v cin = rotated k v cin := by
  cases k <;> cases cin <;> revert v <;> decide

/-- The flags of a rotate or shift (R390). -/
theorem State.rotFlags_follow {s u t : State} (k : Rot) (v : Byte) (hf : t.f = (u.rotFlags k v).f) (hu : u.cfg = s.cfg)
    (hF : u.f = s.f) :
    FlagsFollow s t (resultFlags (rotated k v (s.flag .c)).1 false (evenOnes (rotated k v (s.flag .c)).1) false
      (rotated k v (s.flag .c)).2) flagsYX [] := by
  refine flagsFollow_writeFlags hf hu (maskXY_documented ·) (zero_draws · _) fun g _ => ?_
  have e : u.flag .c = s.flag .c := by rw [State.flag, State.flag, hF]
  have h := logicFlags_eq (rotated k v (s.flag .c)).1 false
  rw [e, rot8_eq, FlagBits.getLsbD_pack]
  cases g
  exacts [h .s, h .z, h .y, h .h, h .x, h .pv, h .n, rfl]

theorem setBit_eq (b : BitVec 3) (v : Byte) : setBit b v = withBit b true v := by
  revert b v; decide

theorem resBit_eq (b : BitVec 3) (v : Byte) : resBit b v = withBit b false v := by
  revert b v; decide

/-- The flags of an accumulator rotate: S, Z and P/V are kept (R391). -/
theorem State.rotA_follow {s u t : State} (k : Rot) (hf : t.f = (u.rotA k).f) (hu : u.cfg = s.cfg) (ha : u.a = s.a)
    (hF : u.f = s.f) :
    FlagsFollow s t (fun
      | .y => bitOf (rotated k s.a (s.flag .c)).1.toNat 5
      | .x => bitOf (rotated k s.a (s.flag .c)).1.toNat 3
      | .h => false
      | .n => false
      | .c => (rotated k s.a (s.flag .c)).2
      | g => s.flag g) flagsYX [] := by
  refine flagsFollow_writeFlags hf hu (maskXY_documented ·) (zero_draws · _) fun g _ => ?_
  have e : u.flag .c = s.flag .c := by rw [State.flag, State.flag, hF]
  rw [e, ha, rot8_eq, FlagBits.getLsbD_pack]
  cases g <;> simp only [FlagBits.get, FlagBits.ofByte, getLsbD_eq_bitOf, State.flag, Flag.bit, hF]

/-- The bits of F after BIT, with Y and X those of the Byte `yx` (R420, R422). -/
theorem bitFlags_eq (s : State) (b : BitVec 3) (v yx : Byte) (g : Flag) :
    (bitFlags s.f b v (yx.getLsbD 5) (yx.getLsbD 3)).getLsbD g.bit = bitTestFlags s b v yx g := by
  have h7 : (b = 7) = (b.toNat = 7) := by rw [← BitVec.toNat_inj]; rfl
  rw [bitFlags, FlagBits.getLsbD_pack]
  cases g <;> simp only [FlagBits.get, FlagBits.ofByte, bitTestFlags, getLsbD_eq_bitOf, State.flag, Flag.bit, h7]
  rw [Bool.eq_iff_iff]
  simp only [Bool.and_eq_true, beq_iff_eq, decide_eq_true_eq]
  exact and_congr_right fun h => by rw [h]

/-- The flags of a block I/O transfer (R478): all but Z are undocumented. -/
theorem State.ioFlags_follow {s u t : State} (v : Byte) (k : Nat) (hf : t.f = (u.ioFlags v k).f) (hu : u.cfg = s.cfg) :
    FlagsFollow s t (blockIoFlags u.b v k) [.s, .y, .h, .x, .pv, .n, .c] [] := by
  refine flagsFollow_writeFlags hf hu (fun g => by cases g <;> decide) (zero_draws · _) fun g _ => ?_
  rw [FlagBits.getLsbD_pack, parity_eq]
  cases g <;> simp only [FlagBits.get, blockIoFlags, getLsbD_eq_bitOf, beq_zero8, gt_iff_lt]

/-- A repeating iteration draws the bits of `draws` and keeps the others (R280). -/
theorem FlagsFollow.repeatBlock {s u : State} {k : Flag → Bool} {us ds : List Flag} {draws : Byte}
    (h : FlagsFollow s u k us []) (hc : u.cfg = s.cfg) (hd : ∀ g, g ∉ ds → draws.getLsbD g.bit = false) :
    FlagsFollow s (u.repeatBlock draws) k us ds := by
  intro g hg hp
  rw [← h g (by simp) hp]
  exact flagsFollow_writeFlags (k := u.flag) (us := us) rfl rfl (zero_draws · _) hd (fun g _ => rfl) g hg (by rwa [hc])

end Sys2Proof.Machine
end

