-- ==== Sys2Proof/Laws/Memory.lean ====
section
/-!
SUPPORT. Sys2Proof/Laws/Memory.lean: the laws of memory: a read sees the latest write, every operation keeps the canonical form,
and what the operations of Ops.lean store.
-/

namespace Sys2Proof.Machine

/-! ### The list -/

theorem Memory.lookup_erase (m : Memory) (a b : Nat) :
    Memory.lookup (Memory.erase m a) b = if b = a then Memory.unwritten else Memory.lookup m b := by
  induction m with
  | nil => simp [Memory.erase, Memory.lookup]
  | cons x m ih =>
    obtain ⟨k, v⟩ := x
    unfold Memory.erase at ih ⊢
    simp only [List.filter_cons, bne_iff_ne, ne_eq]
    split <;> simp only [Memory.lookup, ih] <;> grind

theorem Memory.lookup_insert (m : Memory) (a b : Nat) (v : Byte) (h : ∀ x ∈ m, x.1 ≠ a) :
    Memory.lookup (Memory.insert m a v) b = if b = a then v else Memory.lookup m b := by
  induction m with
  | nil => simp [Memory.insert, Memory.lookup, eq_comm]
  | cons x m ih =>
    obtain ⟨k, w⟩ := x
    have hk := h (k, w) (by simp)
    have := ih fun x hx => h x (by simp [hx])
    simp only [Memory.insert]
    split <;> simp only [Memory.lookup, this] <;> grind

theorem Memory.mem_erase (m : Memory) (a : Nat) (x : Host.Cell) : x ∈ Memory.erase m a ↔ x ∈ m ∧ x.1 ≠ a := by
  simp [Memory.erase]

theorem Memory.mem_insert (m : Memory) (a : Nat) (v : Byte) (x : Host.Cell) :
    x ∈ Memory.insert m a v ↔ x = (a, v) ∨ x ∈ m := by
  induction m with
  | nil => simp [Memory.insert]
  | cons y m ih =>
    obtain ⟨k, w⟩ := y
    simp only [Memory.insert]
    split <;> simp [ih]; grind

theorem Memory.insert_rising (m : Memory) (a : Nat) (v : Byte) (hm : m.Pairwise (fun x y => x.1 < y.1))
    (h : ∀ x ∈ m, x.1 ≠ a) : (Memory.insert m a v).Pairwise (fun x y => x.1 < y.1) := by
  induction m with
  | nil => simp [Memory.insert]
  | cons y m ih =>
    obtain ⟨k, w⟩ := y
    have hk := h (k, w) (by simp)
    have hr := List.pairwise_cons.mp hm
    simp only [Memory.insert]
    split
    · refine List.pairwise_cons.mpr ⟨fun x hx => ?_, hm⟩
      rcases List.mem_cons.mp hx with rfl | hx
      · assumption
      · have := hr.1 x hx; simp at this ⊢; omega
    · refine List.pairwise_cons.mpr ⟨fun x hx => ?_, ih hr.2 fun x hx => h x (by simp [hx])⟩
      rcases (Memory.mem_insert _ _ _ _).mp hx with rfl | hx
      · simp at hk ⊢; omega
      · exact hr.1 x hx

/-- A read after a write gives the value written; every other address reads as before (R100). -/
@[simp] theorem Memory.read_write (m : Memory) (a b : Word) (v : Byte) :
    Memory.read (Memory.write m a v) b = if b = a then v else Memory.read m b := by
  have e : b.toNat = a.toNat ↔ b = a := BitVec.toNat_inj
  unfold Memory.read Memory.write
  split
  · rw [Memory.lookup_erase]; simp only [*]
  · rw [Memory.lookup_insert _ _ _ _ fun x hx => ((Memory.mem_erase _ _ _).mp hx).2, Memory.lookup_erase]
    simp only [e]; split <;> rfl

/-- A write keeps the canonical form. -/
theorem Memory.write_wf (m : Memory) (a : Word) (v : Byte) (h : Memory.wf m) : Memory.wf (Memory.write m a v) := by
  have he : (Memory.erase m a.toNat).Pairwise (fun x y => x.1 < y.1) := h.1.filter _
  unfold Memory.write
  split
  · exact ⟨he, fun x hx => h.2 x ((Memory.mem_erase _ _ _).mp hx).1⟩
  · refine ⟨Memory.insert_rising _ _ _ he fun x hx => ((Memory.mem_erase _ _ _).mp hx).2, fun x hx => ?_⟩
    rcases (Memory.mem_insert _ _ _ _).mp hx with rfl | hx
    · exact ⟨a.isLt, by assumption⟩
    · exact h.2 x ((Memory.mem_erase _ _ _).mp hx).1

/-- Laying bytes into memory keeps the canonical form. -/
theorem Memory.place_wf (m : Memory) (a : Word) (vs : List Byte) (h : Memory.wf m) : Memory.wf (Memory.place m a vs) := by
  induction vs generalizing m a with
  | nil => exact h
  | cons v vs ih => exact ih _ _ (Memory.write_wf m a v h)

/-- The memory of `State.reset` is canonical. -/
theorem State.reset_mem_wf : Memory.wf State.reset.mem := by decide

/-! ### The state -/

/-- `memWrite` as one update. -/
theorem State.memWrite_def (s : State) (a : Word) (v : Byte) :
    s.memWrite a v = { s with mem := if s.inRom a then s.mem else Memory.write s.mem a v } := by
  unfold State.memWrite; split <;> rfl

/-- A read after `memWrite` (R100, R106). -/
theorem State.memRead_memWrite (s : State) (a b : Word) (v : Byte) :
    (s.memWrite a v).memRead b = if b = a ∧ s.inRom a = false then v else s.memRead b := by
  unfold State.memWrite State.memRead
  split <;> simp_all

@[simp] theorem State.inRom_memWrite (s : State) (a b : Word) (v : Byte) : (s.memWrite a v).inRom b = s.inRom b := by
  unfold State.memWrite State.inRom
  split <;> rfl

theorem State.memWrite_wf (s : State) (a : Word) (v : Byte) (h : Memory.wf s.mem) : Memory.wf (s.memWrite a v).mem := by
  unfold State.memWrite
  split
  · exact h
  · exact Memory.write_wf _ _ _ h

/-- A state whose memory and parameters are another's reads as it does. -/
theorem State.memRead_congr {s t : State} (h : t.mem = s.mem) (a : Word) : t.memRead a = s.memRead a := by
  simp [State.memRead, h]

theorem State.inRom_congr {s t : State} (h : t.cfg = s.cfg) (a : Word) : t.inRom a = s.inRom a := by
  simp [State.inRom, h]

/-- The byte `memWrite` stores. -/
theorem storesByte_memWrite (s : State) (a : Word) (v : Byte) : StoresByte s (s.memWrite a v) a v :=
  fun b => s.memRead_memWrite a b v

/-- `StoresByte` from a state with the same memory and parameters, to one with the same memory. -/
theorem StoresByte.of_eq {s s' t t' : State} {a : Word} {v : Byte} (h : StoresByte s' t a v) (hm : s'.mem = s.mem)
    (hc : s'.cfg = s.cfg) (ht : t'.mem = t.mem) : StoresByte s t' a v := by
  intro b
  rw [State.memRead_congr ht, h b, State.memRead_congr hm, State.inRom_congr hc]

theorem hi_eq (w : Word) : hi w = highByte w := by
  apply BitVec.eq_of_toNat_eq
  have := w.isLt
  rw [hi_toNat, highByte, BitVec.toNat_ofNat, Nat.mod_eq_of_lt]; omega

theorem lo_eq (w : Word) : lo w = lowByte w := by
  apply BitVec.eq_of_toNat_eq
  rw [lo_toNat, lowByte, BitVec.toNat_ofNat, Nat.mod_mod]

/-- Two writes at neighbouring addresses, in either order, store a Word (R101). -/
theorem storesWord_low_high (s : State) (a w : Word) :
    StoresWord s ((s.memWrite a (lo w)).memWrite (a + 1) (hi w)) a w := by
  intro b
  have : a + 1 ≠ a := by simp
  simp only [State.memRead_memWrite, State.inRom_memWrite, hi_eq, lo_eq]
  grind

theorem storesWord_high_low (s : State) (a w : Word) :
    StoresWord s ((s.memWrite (a + 1) (hi w)).memWrite a (lo w)) a w := by
  intro b
  have : a + 1 ≠ a := by simp
  simp only [State.memRead_memWrite, State.inRom_memWrite, hi_eq, lo_eq]

/-- The Word `memWrite16` stores (R101). -/
theorem storesWord_memWrite16 (s : State) (a w : Word) : StoresWord s (s.memWrite16 a w) a w := storesWord_low_high s a w

/-- The Word `storeTop` stores (R263). -/
theorem storesWord_storeTop (s : State) (w : Word) : StoresWord s (s.storeTop w) s.sp w := by
  have := storesWord_high_low s s.sp w
  unfold State.storeTop
  exact this

/-- `StoresWord` from a state with the same memory and parameters, to one with the same memory. -/
theorem StoresWord.of_eq {s s' t t' : State} {a w : Word} (h : StoresWord s' t a w) (hm : s'.mem = s.mem)
    (hc : s'.cfg = s.cfg) (ht : t'.mem = t.mem) : StoresWord s t' a w := by
  intro b
  rw [State.memRead_congr ht, h b, State.memRead_congr hm, State.inRom_congr hc, State.inRom_congr hc]

/-- The Word at an address (R101). -/
theorem State.memRead16_eq (s : State) (a : Word) : s.memRead16 a = s.wordAt a := by
  rw [State.memRead16, join_eq, State.wordAt]

theorem State.memWrite16_wf (s : State) (a w : Word) (h : Memory.wf s.mem) : Memory.wf (s.memWrite16 a w).mem :=
  State.memWrite_wf _ _ _ (State.memWrite_wf _ _ _ h)

theorem State.push_wf (s : State) (w : Word) (h : Memory.wf s.mem) : Memory.wf (s.push w).mem := by
  unfold State.push
  exact State.memWrite_wf _ _ _ (State.memWrite_wf _ _ _ h)

theorem State.storeTop_wf (s : State) (w : Word) (h : Memory.wf s.mem) : Memory.wf (s.storeTop w).mem :=
  State.memWrite_wf _ _ _ (State.memWrite_wf _ _ _ h)

/-- `memWrite` changes memory only. -/
theorem State.memWrite_eq (s : State) (a : Word) (v : Byte) : s.memWrite a v = { s with mem := (s.memWrite a v).mem } := by
  unfold State.memWrite; split <;> rfl

/-- `push` is two writes and the fall of SP by 2 (R9). -/
theorem State.push_eq_memWrite (s : State) (w : Word) :
    s.push w = { (s.memWrite (s.sp - 2 + 1) (hi w)).memWrite (s.sp - 2) (lo w) with sp := s.sp - 2 } := by
  have e : s.sp - 2 + 1 = s.sp - 1 := by bv_omega
  have e' : s.sp - 1 - 1 = s.sp - 2 := by bv_omega
  rw [e]
  unfold State.push
  simp only [State.memWrite_def, State.inRom, e']
  rfl

/-- `push` changes SP and memory only (R9). -/
theorem State.push_eq (s : State) (w : Word) : s.push w = { s with sp := s.sp - 2, mem := (s.push w).mem } := by
  rw [State.push_eq_memWrite, State.memWrite_eq (s.memWrite _ _), State.memWrite_eq s]

/-- The Word `push` stores below the stack pointer (R9). -/
theorem storesWord_push (s : State) (w : Word) : StoresWord s (s.push w) (s.sp - 2) w := by
  refine (storesWord_high_low s (s.sp - 2) w).of_eq rfl rfl ?_
  rw [State.push_eq_memWrite]

/-! ### What no operation does to memory -/

/-- From `s` to `t` memory keeps its canonical form and ROM_REGION its bytes, and the parameters are the same. -/
def KeepsMemory (s t : State) : Prop :=
  t.cfg = s.cfg ∧ (Memory.wf s.mem → Memory.wf t.mem) ∧ ∀ a, s.inRom a = true → t.memRead a = s.memRead a

theorem KeepsMemory.of_eq {s t : State} (hm : t.mem = s.mem) (hc : t.cfg = s.cfg) : KeepsMemory s t :=
  ⟨hc, fun h => by rwa [hm], fun a _ => State.memRead_congr hm a⟩

theorem KeepsMemory.trans {s t u : State} (h : KeepsMemory s t) (k : KeepsMemory t u) : KeepsMemory s u :=
  ⟨k.1.trans h.1, k.2.1 ∘ h.2.1, fun a ha => by
    rw [k.2.2 a (by rwa [State.inRom_congr h.1]), h.2.2 a ha]⟩

/-- What follows a step that keeps memory and does not touch it. -/
theorem KeepsMemory.of_mem {s t u : State} (h : KeepsMemory s t) (hm : u.mem = t.mem) (hc : u.cfg = t.cfg) : KeepsMemory s u :=
  h.trans (.of_eq hm hc)

theorem keepsMemory_memWrite (s : State) (a : Word) (v : Byte) : KeepsMemory s (s.memWrite a v) := by
  refine ⟨by simp, State.memWrite_wf s a v, fun b hb => ?_⟩
  rw [State.memRead_memWrite, if_neg]
  rintro ⟨rfl, h⟩
  rw [h] at hb; exact Bool.false_ne_true hb

theorem keepsMemory_memWrite16 (s : State) (a w : Word) : KeepsMemory s (s.memWrite16 a w) :=
  (keepsMemory_memWrite _ _ _).trans (keepsMemory_memWrite _ _ _)

theorem keepsMemory_push (s : State) (w : Word) : KeepsMemory s (s.push w) := by
  rw [State.push_eq_memWrite]
  exact ((keepsMemory_memWrite _ _ _).trans (keepsMemory_memWrite _ _ _)).of_mem rfl rfl

theorem keepsMemory_storeTop (s : State) (w : Word) : KeepsMemory s (s.storeTop w) :=
  (keepsMemory_memWrite _ _ _).trans (keepsMemory_memWrite _ _ _)

theorem keepsMemory_call (s : State) (a : Word) : KeepsMemory s (s.call a) := (keepsMemory_push s s.pc).of_mem rfl rfl

theorem keepsMemory_blockLoad (s : State) (step : Word) : KeepsMemory s (s.blockLoad step) :=
  (keepsMemory_memWrite s s.de (s.memRead s.hl)).of_mem rfl (by simp)

theorem keepsMemory_blockIn (s : State) (step : Byte) : KeepsMemory s (s.blockIn step) :=
  (KeepsMemory.of_eq (t := s.portRead s.bc) rfl rfl).trans
    ((keepsMemory_memWrite _ s.hl (s.portValue s.bc)).of_mem rfl (by simp))

theorem keepsMemory_rotCopy (s : State) (k : Rot) (x : Idx) (d : Byte) (r : Reg8) : KeepsMemory s (s.rotCopy k x d r) := by
  unfold State.rotCopy
  exact (KeepsMemory.of_eq (t := s.rotFlags k (s.idxByte x d)) rfl rfl).trans
    ((keepsMemory_memWrite _ (s.idxAddr x d) (s.rotResult k (s.idxByte x d))).of_mem (State.setReg8_mem ..) (by simp))

theorem keepsMemory_enterHandler (s : State) (q : Bool) (n : Nat) (g : State → Word) : KeepsMemory s (s.enterHandler q n g) := by
  let t : State := { s with halted := false, eiShadow := false, iff1 := false, iff2 := q, r := incRefresh 1 s.r }
  exact (KeepsMemory.of_eq (t := t) rfl rfl).trans ((keepsMemory_push t t.pc).of_mem rfl (by simp [t]))

end Sys2Proof.Machine
end

