-- ==== Sys2Proof/Laws/Exec.lean ====
section
/-!
SUPPORT. Sys2Proof/Laws/Exec.lean: the two ends of an instruction step as one update, `State.advance`.
-/

namespace Sys2Proof.Machine

/-- `advance` in the model's own operations: what `fetch` and `done` do together. -/
theorem State.advance_def (s : State) (length m1 t : Nat) :
    s.advance length m1 t =
      { s with pc := s.pc + BitVec.ofNat 16 length, r := incRefresh m1 s.r, clock := s.clock + t, eiShadow := false } := by
  rw [incRefresh_eq]
  unfold State.advance
  congr 1
  rw [BitVec.ofNat_add, BitVec.ofNat_toNat, BitVec.setWidth_eq]

/-- An instruction with no body (R521). -/
theorem State.done_fetch (s : State) (length m1 t : Nat) : (s.fetch length m1).done t = .next (s.advance length m1 t) := by
  rw [State.advance_def]; rfl

theorem State.undocumented_silicon {s : State} (h : s.cfg.undoc = .silicon) (form : String) (k : Result) :
    s.undocumented form k = k := by
  simp [State.undocumented, h]

theorem State.undocumented_refuse {s : State} (h : s.cfg.undoc = .refuse) (form : String) (k : Result) :
    s.undocumented form k = .refused (.undocumented form) := by
  simp [State.undocumented, h]

/-- The effective address in numbers (R145). -/
theorem State.idxAddr_eq (s : State) (x : Idx) (d : Byte) : s.idxAddr x d = s.indexedAddr x d := add_sext8 _ _

/-- The target of a relative jump in numbers (R451). -/
theorem State.relTarget_fetch (s : State) (length m1 : Nat) (e : Byte) :
    (s.fetch length m1).relTarget e = s.jumpTarget length e := by
  rw [State.relTarget, State.jumpTarget, sext8_eq, State.fetch_pc, BitVec.ofInt_add, BitVec.ofInt_add]
  simp

end Sys2Proof.Machine
end

