-- ==== Sys2Proof/Laws/Frame.lean ====
section
/-!
SUPPORT. Sys2Proof/Laws/Frame.lean: what no instruction does, said once for each and once for `exec`: it keeps the canonical form of
memory, ROM_REGION, the parameters, the controller, the marks and the samples to come, and takes no clock back.
-/

namespace Sys2Proof.Machine

/-- What every instruction that completes leaves as it was, and the one event it may log, dated at its start. -/
structure ExecFrame (s t : State) : Prop where
  keeps : KeepsMemory s t
  clock : s.clock ≤ t.clock
  log : t.ioLog = s.ioLog ∨ ∃ e, e.time = s.clock ∧ t.ioLog = s.ioLog ++ [e]
  dbg : t.dbg = s.dbg
  faulted : t.faulted = s.faulted
  refused : t.refused = s.refused
  unset : t.unset = s.unset
  nmiLatch : t.nmiLatch = s.nmiLatch
  int : t.env.int = s.env.int
  reset : t.env.reset = s.env.reset

/-- An answer all of whose next states are so related to the state before. -/
def Framed (s : State) (r : Result) : Prop := ∀ t, r = .next t → ExecFrame s t

theorem framed_next {s t : State} (hk : KeepsMemory s t)
    (h : s.clock ≤ t.clock ∧ (t.ioLog = s.ioLog ∨ ∃ e, e.time = s.clock ∧ t.ioLog = s.ioLog ++ [e]) ∧ t.dbg = s.dbg ∧
      t.faulted = s.faulted ∧ t.refused = s.refused ∧ t.unset = s.unset ∧ t.nmiLatch = s.nmiLatch ∧ t.env.int = s.env.int ∧
      t.env.reset = s.env.reset) : Framed s (.next t) := by
  rintro u ⟨⟩
  obtain ⟨h1, h2, h3, h4, h5, h6, h7, h8, h9⟩ := h
  exact ⟨hk, h1, h2, h3, h4, h5, h6, h7, h8, h9⟩

theorem framed_undocumented {s : State} {form : String} {r : Result} (h : Framed s r) : Framed s (s.undocumented form r) := by
  unfold State.undocumented
  split
  · rintro u ⟨⟩
  · exact h

theorem framed_branch {s u v : State} {b : Bool} {m n : Nat} (hu : Framed s (u.done n)) (hv : Framed s (v.done m)) :
    Framed s (v.branch b u m n) := by
  unfold State.branch
  split
  · exact hu
  · exact hv

theorem framed_endIteration {s u : State} {b : Bool} {draws : Byte} (hu : Framed s ((u.repeatBlock draws).done 21))
    (hv : Framed s (u.done 16)) : Framed s (u.endIteration b draws) := by
  unfold State.endIteration
  split
  · exact hu
  · exact hv

theorem framed_blockLoad (s : State) (step : Word) : Framed s (((s.fetch 2 2).blockLoad step).done 16) :=
  framed_next ((KeepsMemory.of_eq (by simp) (by simp)).trans ((keepsMemory_blockLoad _ step).of_mem rfl rfl)) (by simp)

theorem framed_blockLoad_repeats (s : State) (step : Word) (b : Bool) (draws : Byte) :
    Framed s (((s.fetch 2 2).blockLoad step).endIteration b draws) :=
  framed_endIteration
    (framed_next ((KeepsMemory.of_eq (by simp) (by simp)).trans ((keepsMemory_blockLoad _ step).of_mem rfl rfl)) (by simp))
    (framed_blockLoad s step)

theorem framed_blockSearch (s : State) (step : Word) : Framed s (((s.fetch 2 2).blockSearch step).done 16) :=
  framed_next (.of_eq (by simp) (by simp)) (by simp)

theorem framed_blockSearch_repeats (s : State) (step : Word) (b : Bool) (draws : Byte) :
    Framed s (((s.fetch 2 2).blockSearch step).endIteration b draws) :=
  framed_endIteration
    (framed_next (.of_eq (by simp) (by simp)) (by simp))
    (framed_blockSearch s step)

theorem framed_blockIn (s : State) (step : Byte) : Framed s (((s.fetch 2 2).blockIn step).done 16) :=
  framed_next ((KeepsMemory.of_eq (by simp) (by simp)).trans ((keepsMemory_blockIn _ step).of_mem rfl rfl)) (by simp)

theorem framed_blockIn_repeats (s : State) (step : Byte) (b : Bool) (draws : Byte) :
    Framed s (((s.fetch 2 2).blockIn step).endIteration b draws) :=
  framed_endIteration
    (framed_next ((KeepsMemory.of_eq (by simp) (by simp)).trans ((keepsMemory_blockIn _ step).of_mem rfl rfl)) (by simp))
    (framed_blockIn s step)

theorem framed_blockOut (s : State) (step : Byte) : Framed s (((s.fetch 2 2).blockOut step).done 16) :=
  framed_next (.of_eq (by simp) (by simp)) (by simp)

theorem framed_blockOut_repeats (s : State) (step : Byte) (b : Bool) (draws : Byte) :
    Framed s (((s.fetch 2 2).blockOut step).endIteration b draws) :=
  framed_endIteration
    (framed_next (.of_eq (by simp) (by simp)) (by simp))
    (framed_blockOut s step)

theorem framed_execPrefixCB (s : State) : Framed s (execPrefixCB s) :=
  framed_next (.of_eq (by simp) (by simp)) (by simp)

theorem framed_execPrefixDD (s : State) : Framed s (execPrefixDD s) :=
  framed_next (.of_eq (by simp) (by simp)) (by simp)

theorem framed_execPrefixED (s : State) : Framed s (execPrefixED s) :=
  framed_next (.of_eq (by simp) (by simp)) (by simp)

theorem framed_execPrefixFD (s : State) : Framed s (execPrefixFD s) :=
  framed_next (.of_eq (by simp) (by simp)) (by simp)

theorem framed_execPrefixDDCB (x : Idx) (s : State) : Framed s (execPrefixDDCB x s) :=
  framed_next (.of_eq (by simp) (by simp)) (by simp)

theorem framed_execNop (s : State) : Framed s (execNop s) :=
  framed_next (.of_eq (by simp) (by simp)) (by simp)

theorem framed_execLdDdNn (dd : RP) (nn : Word) (s : State) : Framed s (execLdDdNn dd nn s) :=
  framed_next (.of_eq (by simp) (by simp)) (by simp)

theorem framed_execLdBcIndA (s : State) : Framed s (execLdBcIndA s) :=
  framed_next ((KeepsMemory.of_eq (by simp) (by simp)).trans ((keepsMemory_memWrite _ _ _).of_mem rfl rfl)) (by simp)

theorem framed_execIncSs (ss : RP) (s : State) : Framed s (execIncSs ss s) :=
  framed_next (.of_eq (by simp) (by simp)) (by simp)

theorem framed_execIncR (r : Reg8) (s : State) : Framed s (execIncR r s) :=
  framed_next (.of_eq (by simp) (by simp)) (by simp)

theorem framed_execDecR (r : Reg8) (s : State) : Framed s (execDecR r s) :=
  framed_next (.of_eq (by simp) (by simp)) (by simp)

theorem framed_execLdRN (r : Reg8) (n : Byte) (s : State) : Framed s (execLdRN r n s) :=
  framed_next (.of_eq (by simp) (by simp)) (by simp)

theorem framed_execRlca (s : State) : Framed s (execRlca s) :=
  framed_next (.of_eq (by simp) (by simp)) (by simp)

theorem framed_execExAfAf (s : State) : Framed s (execExAfAf s) :=
  framed_next (.of_eq (by simp) (by simp)) (by simp)

theorem framed_execAddHlSs (ss : RP) (s : State) : Framed s (execAddHlSs ss s) :=
  framed_next (.of_eq (by simp) (by simp)) (by simp)

theorem framed_execLdABcInd (s : State) : Framed s (execLdABcInd s) :=
  framed_next (.of_eq (by simp) (by simp)) (by simp)

theorem framed_execDecSs (ss : RP) (s : State) : Framed s (execDecSs ss s) :=
  framed_next (.of_eq (by simp) (by simp)) (by simp)

theorem framed_execRrca (s : State) : Framed s (execRrca s) :=
  framed_next (.of_eq (by simp) (by simp)) (by simp)

theorem framed_execDjnz (e : Byte) (s : State) : Framed s (execDjnz e s) :=
  framed_branch (framed_next (.of_eq (by simp) (by simp)) (by simp)) (framed_next (.of_eq (by simp) (by simp)) (by simp))

theorem framed_execLdDeIndA (s : State) : Framed s (execLdDeIndA s) :=
  framed_next ((KeepsMemory.of_eq (by simp) (by simp)).trans ((keepsMemory_memWrite _ _ _).of_mem rfl rfl)) (by simp)

theorem framed_execRla (s : State) : Framed s (execRla s) :=
  framed_next (.of_eq (by simp) (by simp)) (by simp)

theorem framed_execJr (e : Byte) (s : State) : Framed s (execJr e s) :=
  framed_next (.of_eq (by simp) (by simp)) (by simp)

theorem framed_execLdADeInd (s : State) : Framed s (execLdADeInd s) :=
  framed_next (.of_eq (by simp) (by simp)) (by simp)

theorem framed_execRra (s : State) : Framed s (execRra s) :=
  framed_next (.of_eq (by simp) (by simp)) (by simp)

theorem framed_execJrCc (cc : JrCond) (e : Byte) (s : State) : Framed s (execJrCc cc e s) :=
  framed_branch (framed_next (.of_eq (by simp) (by simp)) (by simp)) (framed_next (.of_eq (by simp) (by simp)) (by simp))

theorem framed_execLdNnIndHl (nn : Word) (s : State) : Framed s (execLdNnIndHl nn s) :=
  framed_next ((KeepsMemory.of_eq (by simp) (by simp)).trans ((keepsMemory_memWrite16 _ _ _).of_mem rfl rfl)) (by simp)

theorem framed_execDaa (s : State) : Framed s (execDaa s) :=
  framed_next (.of_eq (by simp) (by simp)) (by simp)

theorem framed_execLdHlNnInd (nn : Word) (s : State) : Framed s (execLdHlNnInd nn s) :=
  framed_next (.of_eq (by simp) (by simp)) (by simp)

theorem framed_execCpl (s : State) : Framed s (execCpl s) :=
  framed_next (.of_eq (by simp) (by simp)) (by simp)

theorem framed_execLdNnIndA (nn : Word) (s : State) : Framed s (execLdNnIndA nn s) :=
  framed_next ((KeepsMemory.of_eq (by simp) (by simp)).trans ((keepsMemory_memWrite _ _ _).of_mem rfl rfl)) (by simp)

theorem framed_execIncHlInd (s : State) : Framed s (execIncHlInd s) :=
  framed_next ((KeepsMemory.of_eq (by simp) (by simp)).trans ((keepsMemory_memWrite _ _ _).of_mem rfl rfl)) (by simp)

theorem framed_execDecHlInd (s : State) : Framed s (execDecHlInd s) :=
  framed_next ((KeepsMemory.of_eq (by simp) (by simp)).trans ((keepsMemory_memWrite _ _ _).of_mem rfl rfl)) (by simp)

theorem framed_execLdHlIndN (n : Byte) (s : State) : Framed s (execLdHlIndN n s) :=
  framed_next ((KeepsMemory.of_eq (by simp) (by simp)).trans ((keepsMemory_memWrite _ _ _).of_mem rfl rfl)) (by simp)

theorem framed_execScf (s : State) : Framed s (execScf s) :=
  framed_next (.of_eq (by simp) (by simp)) (by simp)

theorem framed_execLdANnInd (nn : Word) (s : State) : Framed s (execLdANnInd nn s) :=
  framed_next (.of_eq (by simp) (by simp)) (by simp)

theorem framed_execCcf (s : State) : Framed s (execCcf s) :=
  framed_next (.of_eq (by simp) (by simp)) (by simp)

theorem framed_execLdRR (y : Reg8) (z : Reg8) (s : State) : Framed s (execLdRR y z s) :=
  framed_next (.of_eq (by simp) (by simp)) (by simp)

theorem framed_execLdRHlInd (r : Reg8) (s : State) : Framed s (execLdRHlInd r s) :=
  framed_next (.of_eq (by simp) (by simp)) (by simp)

theorem framed_execLdHlIndR (r : Reg8) (s : State) : Framed s (execLdHlIndR r s) :=
  framed_next ((KeepsMemory.of_eq (by simp) (by simp)).trans ((keepsMemory_memWrite _ _ _).of_mem rfl rfl)) (by simp)

theorem framed_execHalt (s : State) : Framed s (execHalt s) :=
  framed_next (.of_eq (by simp) (by simp)) (by simp)

theorem framed_execAddAR (r : Reg8) (s : State) : Framed s (execAddAR r s) :=
  framed_next (.of_eq (by simp) (by simp)) (by simp)

theorem framed_execAddAHlInd (s : State) : Framed s (execAddAHlInd s) :=
  framed_next (.of_eq (by simp) (by simp)) (by simp)

theorem framed_execAdcAR (r : Reg8) (s : State) : Framed s (execAdcAR r s) :=
  framed_next (.of_eq (by simp) (by simp)) (by simp)

theorem framed_execAdcAHlInd (s : State) : Framed s (execAdcAHlInd s) :=
  framed_next (.of_eq (by simp) (by simp)) (by simp)

theorem framed_execSubR (r : Reg8) (s : State) : Framed s (execSubR r s) :=
  framed_next (.of_eq (by simp) (by simp)) (by simp)

theorem framed_execSubHlInd (s : State) : Framed s (execSubHlInd s) :=
  framed_next (.of_eq (by simp) (by simp)) (by simp)

theorem framed_execSbcAR (r : Reg8) (s : State) : Framed s (execSbcAR r s) :=
  framed_next (.of_eq (by simp) (by simp)) (by simp)

theorem framed_execSbcAHlInd (s : State) : Framed s (execSbcAHlInd s) :=
  framed_next (.of_eq (by simp) (by simp)) (by simp)

theorem framed_execAndR (r : Reg8) (s : State) : Framed s (execAndR r s) :=
  framed_next (.of_eq (by simp) (by simp)) (by simp)

theorem framed_execAndHlInd (s : State) : Framed s (execAndHlInd s) :=
  framed_next (.of_eq (by simp) (by simp)) (by simp)

theorem framed_execXorR (r : Reg8) (s : State) : Framed s (execXorR r s) :=
  framed_next (.of_eq (by simp) (by simp)) (by simp)

theorem framed_execXorHlInd (s : State) : Framed s (execXorHlInd s) :=
  framed_next (.of_eq (by simp) (by simp)) (by simp)

theorem framed_execOrR (r : Reg8) (s : State) : Framed s (execOrR r s) :=
  framed_next (.of_eq (by simp) (by simp)) (by simp)

theorem framed_execOrHlInd (s : State) : Framed s (execOrHlInd s) :=
  framed_next (.of_eq (by simp) (by simp)) (by simp)

theorem framed_execCpR (r : Reg8) (s : State) : Framed s (execCpR r s) :=
  framed_next (.of_eq (by simp) (by simp)) (by simp)

theorem framed_execCpHlInd (s : State) : Framed s (execCpHlInd s) :=
  framed_next (.of_eq (by simp) (by simp)) (by simp)

theorem framed_execRetCc (cc : Cond) (s : State) : Framed s (execRetCc cc s) :=
  framed_branch (framed_next (.of_eq (by simp) (by simp)) (by simp)) (framed_next (.of_eq (by simp) (by simp)) (by simp))

theorem framed_execPopQq (qq : RP2) (s : State) : Framed s (execPopQq qq s) :=
  framed_next (.of_eq (by simp) (by simp)) (by simp)

theorem framed_execJpCcNn (cc : Cond) (nn : Word) (s : State) : Framed s (execJpCcNn cc nn s) :=
  framed_branch (framed_next (.of_eq (by simp) (by simp)) (by simp)) (framed_next (.of_eq (by simp) (by simp)) (by simp))

theorem framed_execJpNn (nn : Word) (s : State) : Framed s (execJpNn nn s) :=
  framed_next (.of_eq (by simp) (by simp)) (by simp)

theorem framed_execCallCcNn (cc : Cond) (nn : Word) (s : State) : Framed s (execCallCcNn cc nn s) :=
  framed_branch (framed_next ((KeepsMemory.of_eq (by simp) (by simp)).trans ((keepsMemory_call _ nn).of_mem rfl rfl)) (by simp)) (framed_next (.of_eq (by simp) (by simp)) (by simp))

theorem framed_execPushQq (qq : RP2) (s : State) : Framed s (execPushQq qq s) :=
  framed_next ((KeepsMemory.of_eq (by simp) (by simp)).trans ((keepsMemory_push _ _).of_mem rfl rfl)) (by simp)

theorem framed_execAddAN (n : Byte) (s : State) : Framed s (execAddAN n s) :=
  framed_next (.of_eq (by simp) (by simp)) (by simp)

theorem framed_execRst (t : BitVec 3) (s : State) : Framed s (execRst t s) :=
  framed_next ((KeepsMemory.of_eq (by simp) (by simp)).trans ((keepsMemory_call _ (BitVec.ofNat 16 (t.toNat * 8))).of_mem rfl rfl)) (by simp)

theorem framed_execRet (s : State) : Framed s (execRet s) :=
  framed_next (.of_eq (by simp) (by simp)) (by simp)

theorem framed_execCallNn (nn : Word) (s : State) : Framed s (execCallNn nn s) :=
  framed_next ((KeepsMemory.of_eq (by simp) (by simp)).trans ((keepsMemory_call _ nn).of_mem rfl rfl)) (by simp)

theorem framed_execAdcAN (n : Byte) (s : State) : Framed s (execAdcAN n s) :=
  framed_next (.of_eq (by simp) (by simp)) (by simp)

theorem framed_execOutNA (n : Byte) (s : State) : Framed s (execOutNA n s) :=
  framed_next (.of_eq (by simp) (by simp)) (by simp)

theorem framed_execSubN (n : Byte) (s : State) : Framed s (execSubN n s) :=
  framed_next (.of_eq (by simp) (by simp)) (by simp)

theorem framed_execExx (s : State) : Framed s (execExx s) :=
  framed_next (.of_eq (by simp) (by simp)) (by simp)

theorem framed_execInAN (n : Byte) (s : State) : Framed s (execInAN n s) :=
  framed_next (.of_eq (by simp) (by simp)) (by simp)

theorem framed_execSbcAN (n : Byte) (s : State) : Framed s (execSbcAN n s) :=
  framed_next (.of_eq (by simp) (by simp)) (by simp)

theorem framed_execExSpHl (s : State) : Framed s (execExSpHl s) :=
  framed_next ((KeepsMemory.of_eq (by simp) (by simp)).trans ((keepsMemory_storeTop _ _).of_mem rfl rfl)) (by simp)

theorem framed_execAndN (n : Byte) (s : State) : Framed s (execAndN n s) :=
  framed_next (.of_eq (by simp) (by simp)) (by simp)

theorem framed_execJpHl (s : State) : Framed s (execJpHl s) :=
  framed_next (.of_eq (by simp) (by simp)) (by simp)

theorem framed_execExDeHl (s : State) : Framed s (execExDeHl s) :=
  framed_next (.of_eq (by simp) (by simp)) (by simp)

theorem framed_execXorN (n : Byte) (s : State) : Framed s (execXorN n s) :=
  framed_next (.of_eq (by simp) (by simp)) (by simp)

theorem framed_execDi (s : State) : Framed s (execDi s) :=
  framed_next (.of_eq (by simp) (by simp)) (by simp)

theorem framed_execOrN (n : Byte) (s : State) : Framed s (execOrN n s) :=
  framed_next (.of_eq (by simp) (by simp)) (by simp)

theorem framed_execLdSpHl (s : State) : Framed s (execLdSpHl s) :=
  framed_next (.of_eq (by simp) (by simp)) (by simp)

theorem framed_execEi (s : State) : Framed s (execEi s) :=
  framed_next (.of_eq (by simp) (by simp)) (by simp)

theorem framed_execCpN (n : Byte) (s : State) : Framed s (execCpN n s) :=
  framed_next (.of_eq (by simp) (by simp)) (by simp)

theorem framed_execRlcR (r : Reg8) (s : State) : Framed s (execRlcR r s) :=
  framed_next (.of_eq (by simp) (by simp)) (by simp)

theorem framed_execRlcHlInd (s : State) : Framed s (execRlcHlInd s) :=
  framed_next ((KeepsMemory.of_eq (by simp) (by simp)).trans ((keepsMemory_memWrite _ _ _).of_mem rfl rfl)) (by simp)

theorem framed_execRrcR (r : Reg8) (s : State) : Framed s (execRrcR r s) :=
  framed_next (.of_eq (by simp) (by simp)) (by simp)

theorem framed_execRrcHlInd (s : State) : Framed s (execRrcHlInd s) :=
  framed_next ((KeepsMemory.of_eq (by simp) (by simp)).trans ((keepsMemory_memWrite _ _ _).of_mem rfl rfl)) (by simp)

theorem framed_execRlR (r : Reg8) (s : State) : Framed s (execRlR r s) :=
  framed_next (.of_eq (by simp) (by simp)) (by simp)

theorem framed_execRlHlInd (s : State) : Framed s (execRlHlInd s) :=
  framed_next ((KeepsMemory.of_eq (by simp) (by simp)).trans ((keepsMemory_memWrite _ _ _).of_mem rfl rfl)) (by simp)

theorem framed_execRrR (r : Reg8) (s : State) : Framed s (execRrR r s) :=
  framed_next (.of_eq (by simp) (by simp)) (by simp)

theorem framed_execRrHlInd (s : State) : Framed s (execRrHlInd s) :=
  framed_next ((KeepsMemory.of_eq (by simp) (by simp)).trans ((keepsMemory_memWrite _ _ _).of_mem rfl rfl)) (by simp)

theorem framed_execSlaR (r : Reg8) (s : State) : Framed s (execSlaR r s) :=
  framed_next (.of_eq (by simp) (by simp)) (by simp)

theorem framed_execSlaHlInd (s : State) : Framed s (execSlaHlInd s) :=
  framed_next ((KeepsMemory.of_eq (by simp) (by simp)).trans ((keepsMemory_memWrite _ _ _).of_mem rfl rfl)) (by simp)

theorem framed_execSraR (r : Reg8) (s : State) : Framed s (execSraR r s) :=
  framed_next (.of_eq (by simp) (by simp)) (by simp)

theorem framed_execSraHlInd (s : State) : Framed s (execSraHlInd s) :=
  framed_next ((KeepsMemory.of_eq (by simp) (by simp)).trans ((keepsMemory_memWrite _ _ _).of_mem rfl rfl)) (by simp)

theorem framed_execSllR (r : Reg8) (s : State) : Framed s (execSllR r s) :=
  framed_undocumented (framed_next (.of_eq (by simp) (by simp)) (by simp))

theorem framed_execSllHlInd (s : State) : Framed s (execSllHlInd s) :=
  framed_undocumented (framed_next ((KeepsMemory.of_eq (by simp) (by simp)).trans ((keepsMemory_memWrite _ _ _).of_mem rfl rfl)) (by simp))

theorem framed_execSrlR (r : Reg8) (s : State) : Framed s (execSrlR r s) :=
  framed_next (.of_eq (by simp) (by simp)) (by simp)

theorem framed_execSrlHlInd (s : State) : Framed s (execSrlHlInd s) :=
  framed_next ((KeepsMemory.of_eq (by simp) (by simp)).trans ((keepsMemory_memWrite _ _ _).of_mem rfl rfl)) (by simp)

theorem framed_execBitBR (b : BitVec 3) (r : Reg8) (s : State) : Framed s (execBitBR b r s) :=
  framed_next (.of_eq (by simp) (by simp)) (by simp)

theorem framed_execBitBHlInd (b : BitVec 3) (s : State) : Framed s (execBitBHlInd b s) :=
  framed_next (.of_eq (by simp) (by simp)) (by simp)

theorem framed_execResBR (b : BitVec 3) (r : Reg8) (s : State) : Framed s (execResBR b r s) :=
  framed_next (.of_eq (by simp) (by simp)) (by simp)

theorem framed_execResBHlInd (b : BitVec 3) (s : State) : Framed s (execResBHlInd b s) :=
  framed_next ((KeepsMemory.of_eq (by simp) (by simp)).trans ((keepsMemory_memWrite _ _ _).of_mem rfl rfl)) (by simp)

theorem framed_execSetBR (b : BitVec 3) (r : Reg8) (s : State) : Framed s (execSetBR b r s) :=
  framed_next (.of_eq (by simp) (by simp)) (by simp)

theorem framed_execSetBHlInd (b : BitVec 3) (s : State) : Framed s (execSetBHlInd b s) :=
  framed_next ((KeepsMemory.of_eq (by simp) (by simp)).trans ((keepsMemory_memWrite _ _ _).of_mem rfl rfl)) (by simp)

theorem framed_execNopEdHole (op : Byte) (s : State) : Framed s (execNopEdHole op s) :=
  framed_next (.of_eq (by simp) (by simp)) (by simp)

theorem framed_execInRC (r : Reg8) (s : State) : Framed s (execInRC r s) :=
  framed_next (.of_eq (by simp) (by simp)) (by simp)

theorem framed_execOutCR (r : Reg8) (s : State) : Framed s (execOutCR r s) :=
  framed_next (.of_eq (by simp) (by simp)) (by simp)

theorem framed_execSbcHlSs (ss : RP) (s : State) : Framed s (execSbcHlSs ss s) :=
  framed_next (.of_eq (by simp) (by simp)) (by simp)

theorem framed_execLdNnIndDd (dd : RP) (nn : Word) (s : State) : Framed s (execLdNnIndDd dd nn s) :=
  framed_next ((KeepsMemory.of_eq (by simp) (by simp)).trans ((keepsMemory_memWrite16 _ _ _).of_mem rfl rfl)) (by simp)

theorem framed_execNeg (s : State) : Framed s (execNeg s) :=
  framed_next (.of_eq (by simp) (by simp)) (by simp)

theorem framed_execRetn (s : State) : Framed s (execRetn s) :=
  framed_next (.of_eq (by simp) (by simp)) (by simp)

theorem framed_execIm0 (s : State) : Framed s (execIm0 s) :=
  framed_next (.of_eq (by simp) (by simp)) (by simp)

theorem framed_execLdIA (s : State) : Framed s (execLdIA s) :=
  framed_next (.of_eq (by simp) (by simp)) (by simp)

theorem framed_execAdcHlSs (ss : RP) (s : State) : Framed s (execAdcHlSs ss s) :=
  framed_next (.of_eq (by simp) (by simp)) (by simp)

theorem framed_execLdDdNnInd (dd : RP) (nn : Word) (s : State) : Framed s (execLdDdNnInd dd nn s) :=
  framed_next (.of_eq (by simp) (by simp)) (by simp)

theorem framed_execNegMirror (y : BitVec 3) (s : State) : Framed s (execNegMirror y s) :=
  framed_undocumented (framed_next (.of_eq (by simp) (by simp)) (by simp))

theorem framed_execReti (s : State) : Framed s (execReti s) :=
  framed_next (.of_eq (by simp) (by simp)) (by simp)

theorem framed_execImMirror (y : BitVec 3) (s : State) : Framed s (execImMirror y s) :=
  framed_undocumented (framed_next (.of_eq (by simp) (by simp)) (by simp))

theorem framed_execLdRfshA (s : State) : Framed s (execLdRfshA s) :=
  framed_next (.of_eq (by simp) (by simp)) (by simp)

theorem framed_execRetnMirror (y : BitVec 3) (s : State) : Framed s (execRetnMirror y s) :=
  framed_undocumented (framed_next (.of_eq (by simp) (by simp)) (by simp))

theorem framed_execIm1 (s : State) : Framed s (execIm1 s) :=
  framed_next (.of_eq (by simp) (by simp)) (by simp)

theorem framed_execLdAI (s : State) : Framed s (execLdAI s) :=
  framed_next (.of_eq (by simp) (by simp)) (by simp)

theorem framed_execIm2 (s : State) : Framed s (execIm2 s) :=
  framed_next (.of_eq (by simp) (by simp)) (by simp)

theorem framed_execLdARfsh (s : State) : Framed s (execLdARfsh s) :=
  framed_next (.of_eq (by simp) (by simp)) (by simp)

theorem framed_execRrd (s : State) : Framed s (execRrd s) :=
  framed_next ((KeepsMemory.of_eq (by simp) (by simp)).trans ((keepsMemory_memWrite _ _ _).of_mem rfl rfl)) (by simp)

theorem framed_execRld (s : State) : Framed s (execRld s) :=
  framed_next ((KeepsMemory.of_eq (by simp) (by simp)).trans ((keepsMemory_memWrite _ _ _).of_mem rfl rfl)) (by simp)

theorem framed_execInFC (s : State) : Framed s (execInFC s) :=
  framed_undocumented (framed_next (.of_eq (by simp) (by simp)) (by simp))

theorem framed_execOutC0 (s : State) : Framed s (execOutC0 s) :=
  framed_undocumented (framed_next (.of_eq (by simp) (by simp)) (by simp))

theorem framed_execLdi (s : State) : Framed s (execLdi s) :=
  framed_blockLoad s 1

theorem framed_execCpi (s : State) : Framed s (execCpi s) :=
  framed_blockSearch s 1

theorem framed_execIni (s : State) : Framed s (execIni s) :=
  framed_blockIn s 1

theorem framed_execOuti (s : State) : Framed s (execOuti s) :=
  framed_blockOut s 1

theorem framed_execLdd (s : State) : Framed s (execLdd s) :=
  framed_blockLoad s (-1)

theorem framed_execCpd (s : State) : Framed s (execCpd s) :=
  framed_blockSearch s (-1)

theorem framed_execInd (s : State) : Framed s (execInd s) :=
  framed_blockIn s (-1)

theorem framed_execOutd (s : State) : Framed s (execOutd s) :=
  framed_blockOut s (-1)

theorem framed_execLdir (s : State) : Framed s (execLdir s) :=
  framed_blockLoad_repeats s 1 _ _

theorem framed_execCpir (s : State) : Framed s (execCpir s) :=
  framed_blockSearch_repeats s 1 _ _

theorem framed_execInir (s : State) : Framed s (execInir s) :=
  framed_blockIn_repeats s 1 _ _

theorem framed_execOtir (s : State) : Framed s (execOtir s) :=
  framed_blockOut_repeats s 1 _ _

theorem framed_execLddr (s : State) : Framed s (execLddr s) :=
  framed_blockLoad_repeats s (-1) _ _

theorem framed_execCpdr (s : State) : Framed s (execCpdr s) :=
  framed_blockSearch_repeats s (-1) _ _

theorem framed_execIndr (s : State) : Framed s (execIndr s) :=
  framed_blockIn_repeats s (-1) _ _

theorem framed_execOtdr (s : State) : Framed s (execOtdr s) :=
  framed_blockOut_repeats s (-1) _ _

theorem framed_execAddIxPp (x : Idx) (pp : XRP) (s : State) : Framed s (execAddIxPp x pp s) :=
  framed_next (.of_eq (by simp) (by simp)) (by simp)

theorem framed_execLdIxNn (x : Idx) (nn : Word) (s : State) : Framed s (execLdIxNn x nn s) :=
  framed_next (.of_eq (by simp) (by simp)) (by simp)

theorem framed_execLdNnIndIx (x : Idx) (nn : Word) (s : State) : Framed s (execLdNnIndIx x nn s) :=
  framed_next ((KeepsMemory.of_eq (by simp) (by simp)).trans ((keepsMemory_memWrite16 _ _ _).of_mem rfl rfl)) (by simp)

theorem framed_execIncIx (x : Idx) (s : State) : Framed s (execIncIx x s) :=
  framed_next (.of_eq (by simp) (by simp)) (by simp)

theorem framed_execIncHalf (x : Idx) (p : Half) (s : State) : Framed s (execIncHalf x p s) :=
  framed_undocumented (framed_next (.of_eq (by simp) (by simp)) (by simp))

theorem framed_execDecHalf (x : Idx) (p : Half) (s : State) : Framed s (execDecHalf x p s) :=
  framed_undocumented (framed_next (.of_eq (by simp) (by simp)) (by simp))

theorem framed_execLdHalfN (x : Idx) (p : Half) (n : Byte) (s : State) : Framed s (execLdHalfN x p n s) :=
  framed_undocumented (framed_next (.of_eq (by simp) (by simp)) (by simp))

theorem framed_execLdIxNnInd (x : Idx) (nn : Word) (s : State) : Framed s (execLdIxNnInd x nn s) :=
  framed_next (.of_eq (by simp) (by simp)) (by simp)

theorem framed_execDecIx (x : Idx) (s : State) : Framed s (execDecIx x s) :=
  framed_next (.of_eq (by simp) (by simp)) (by simp)

theorem framed_execIncIxd (x : Idx) (d : Byte) (s : State) : Framed s (execIncIxd x d s) :=
  framed_next ((KeepsMemory.of_eq (by simp) (by simp)).trans ((keepsMemory_memWrite _ _ _).of_mem rfl rfl)) (by simp)

theorem framed_execDecIxd (x : Idx) (d : Byte) (s : State) : Framed s (execDecIxd x d s) :=
  framed_next ((KeepsMemory.of_eq (by simp) (by simp)).trans ((keepsMemory_memWrite _ _ _).of_mem rfl rfl)) (by simp)

theorem framed_execLdIxdN (x : Idx) (d : Byte) (n : Byte) (s : State) : Framed s (execLdIxdN x d n s) :=
  framed_next ((KeepsMemory.of_eq (by simp) (by simp)).trans ((keepsMemory_memWrite _ _ _).of_mem rfl rfl)) (by simp)

theorem framed_execLdHalves (x : Idx) (y : XReg8) (z : XReg8) (s : State) : Framed s (execLdHalves x y z s) :=
  framed_undocumented (framed_next (.of_eq (by simp) (by simp)) (by simp))

theorem framed_execLdRIxd (x : Idx) (r : Reg8) (d : Byte) (s : State) : Framed s (execLdRIxd x r d s) :=
  framed_next (.of_eq (by simp) (by simp)) (by simp)

theorem framed_execLdIxdR (x : Idx) (d : Byte) (r : Reg8) (s : State) : Framed s (execLdIxdR x d r s) :=
  framed_next ((KeepsMemory.of_eq (by simp) (by simp)).trans ((keepsMemory_memWrite _ _ _).of_mem rfl rfl)) (by simp)

theorem framed_execAddAHalf (x : Idx) (p : Half) (s : State) : Framed s (execAddAHalf x p s) :=
  framed_undocumented (framed_next (.of_eq (by simp) (by simp)) (by simp))

theorem framed_execAddAIxd (x : Idx) (d : Byte) (s : State) : Framed s (execAddAIxd x d s) :=
  framed_next (.of_eq (by simp) (by simp)) (by simp)

theorem framed_execAdcAHalf (x : Idx) (p : Half) (s : State) : Framed s (execAdcAHalf x p s) :=
  framed_undocumented (framed_next (.of_eq (by simp) (by simp)) (by simp))

theorem framed_execAdcAIxd (x : Idx) (d : Byte) (s : State) : Framed s (execAdcAIxd x d s) :=
  framed_next (.of_eq (by simp) (by simp)) (by simp)

theorem framed_execSubHalf (x : Idx) (p : Half) (s : State) : Framed s (execSubHalf x p s) :=
  framed_undocumented (framed_next (.of_eq (by simp) (by simp)) (by simp))

theorem framed_execSubIxd (x : Idx) (d : Byte) (s : State) : Framed s (execSubIxd x d s) :=
  framed_next (.of_eq (by simp) (by simp)) (by simp)

theorem framed_execSbcAHalf (x : Idx) (p : Half) (s : State) : Framed s (execSbcAHalf x p s) :=
  framed_undocumented (framed_next (.of_eq (by simp) (by simp)) (by simp))

theorem framed_execSbcAIxd (x : Idx) (d : Byte) (s : State) : Framed s (execSbcAIxd x d s) :=
  framed_next (.of_eq (by simp) (by simp)) (by simp)

theorem framed_execAndHalf (x : Idx) (p : Half) (s : State) : Framed s (execAndHalf x p s) :=
  framed_undocumented (framed_next (.of_eq (by simp) (by simp)) (by simp))

theorem framed_execAndIxd (x : Idx) (d : Byte) (s : State) : Framed s (execAndIxd x d s) :=
  framed_next (.of_eq (by simp) (by simp)) (by simp)

theorem framed_execXorHalf (x : Idx) (p : Half) (s : State) : Framed s (execXorHalf x p s) :=
  framed_undocumented (framed_next (.of_eq (by simp) (by simp)) (by simp))

theorem framed_execXorIxd (x : Idx) (d : Byte) (s : State) : Framed s (execXorIxd x d s) :=
  framed_next (.of_eq (by simp) (by simp)) (by simp)

theorem framed_execOrHalf (x : Idx) (p : Half) (s : State) : Framed s (execOrHalf x p s) :=
  framed_undocumented (framed_next (.of_eq (by simp) (by simp)) (by simp))

theorem framed_execOrIxd (x : Idx) (d : Byte) (s : State) : Framed s (execOrIxd x d s) :=
  framed_next (.of_eq (by simp) (by simp)) (by simp)

theorem framed_execCpHalf (x : Idx) (p : Half) (s : State) : Framed s (execCpHalf x p s) :=
  framed_undocumented (framed_next (.of_eq (by simp) (by simp)) (by simp))

theorem framed_execCpIxd (x : Idx) (d : Byte) (s : State) : Framed s (execCpIxd x d s) :=
  framed_next (.of_eq (by simp) (by simp)) (by simp)

theorem framed_execPopIx (x : Idx) (s : State) : Framed s (execPopIx x s) :=
  framed_next (.of_eq (by simp) (by simp)) (by simp)

theorem framed_execExSpIx (x : Idx) (s : State) : Framed s (execExSpIx x s) :=
  framed_next ((KeepsMemory.of_eq (by simp) (by simp)).trans ((keepsMemory_storeTop _ _).of_mem (State.setIdx_mem ..) (State.setIdx_cfg ..))) (by simp)

theorem framed_execPushIx (x : Idx) (s : State) : Framed s (execPushIx x s) :=
  framed_next ((KeepsMemory.of_eq (by simp) (by simp)).trans ((keepsMemory_push _ _).of_mem rfl rfl)) (by simp)

theorem framed_execJpIx (x : Idx) (s : State) : Framed s (execJpIx x s) :=
  framed_next (.of_eq (by simp) (by simp)) (by simp)

theorem framed_execLdSpIx (x : Idx) (s : State) : Framed s (execLdSpIx x s) :=
  framed_next (.of_eq (by simp) (by simp)) (by simp)

theorem framed_execRlcIxdR (x : Idx) (d : Byte) (r : Reg8) (s : State) : Framed s (execRlcIxdR x d r s) :=
  framed_undocumented (framed_next ((KeepsMemory.of_eq (by simp) (by simp)).trans ((keepsMemory_rotCopy _ _ _ _ _).of_mem rfl rfl)) (by simp))

theorem framed_execRlcIxd (x : Idx) (d : Byte) (s : State) : Framed s (execRlcIxd x d s) :=
  framed_next ((KeepsMemory.of_eq (by simp) (by simp)).trans ((keepsMemory_memWrite _ _ _).of_mem rfl rfl)) (by simp)

theorem framed_execRrcIxdR (x : Idx) (d : Byte) (r : Reg8) (s : State) : Framed s (execRrcIxdR x d r s) :=
  framed_undocumented (framed_next ((KeepsMemory.of_eq (by simp) (by simp)).trans ((keepsMemory_rotCopy _ _ _ _ _).of_mem rfl rfl)) (by simp))

theorem framed_execRrcIxd (x : Idx) (d : Byte) (s : State) : Framed s (execRrcIxd x d s) :=
  framed_next ((KeepsMemory.of_eq (by simp) (by simp)).trans ((keepsMemory_memWrite _ _ _).of_mem rfl rfl)) (by simp)

theorem framed_execRlIxdR (x : Idx) (d : Byte) (r : Reg8) (s : State) : Framed s (execRlIxdR x d r s) :=
  framed_undocumented (framed_next ((KeepsMemory.of_eq (by simp) (by simp)).trans ((keepsMemory_rotCopy _ _ _ _ _).of_mem rfl rfl)) (by simp))

theorem framed_execRlIxd (x : Idx) (d : Byte) (s : State) : Framed s (execRlIxd x d s) :=
  framed_next ((KeepsMemory.of_eq (by simp) (by simp)).trans ((keepsMemory_memWrite _ _ _).of_mem rfl rfl)) (by simp)

theorem framed_execRrIxdR (x : Idx) (d : Byte) (r : Reg8) (s : State) : Framed s (execRrIxdR x d r s) :=
  framed_undocumented (framed_next ((KeepsMemory.of_eq (by simp) (by simp)).trans ((keepsMemory_rotCopy _ _ _ _ _).of_mem rfl rfl)) (by simp))

theorem framed_execRrIxd (x : Idx) (d : Byte) (s : State) : Framed s (execRrIxd x d s) :=
  framed_next ((KeepsMemory.of_eq (by simp) (by simp)).trans ((keepsMemory_memWrite _ _ _).of_mem rfl rfl)) (by simp)

theorem framed_execSlaIxdR (x : Idx) (d : Byte) (r : Reg8) (s : State) : Framed s (execSlaIxdR x d r s) :=
  framed_undocumented (framed_next ((KeepsMemory.of_eq (by simp) (by simp)).trans ((keepsMemory_rotCopy _ _ _ _ _).of_mem rfl rfl)) (by simp))

theorem framed_execSlaIxd (x : Idx) (d : Byte) (s : State) : Framed s (execSlaIxd x d s) :=
  framed_next ((KeepsMemory.of_eq (by simp) (by simp)).trans ((keepsMemory_memWrite _ _ _).of_mem rfl rfl)) (by simp)

theorem framed_execSraIxdR (x : Idx) (d : Byte) (r : Reg8) (s : State) : Framed s (execSraIxdR x d r s) :=
  framed_undocumented (framed_next ((KeepsMemory.of_eq (by simp) (by simp)).trans ((keepsMemory_rotCopy _ _ _ _ _).of_mem rfl rfl)) (by simp))

theorem framed_execSraIxd (x : Idx) (d : Byte) (s : State) : Framed s (execSraIxd x d s) :=
  framed_next ((KeepsMemory.of_eq (by simp) (by simp)).trans ((keepsMemory_memWrite _ _ _).of_mem rfl rfl)) (by simp)

theorem framed_execSllIxdR (x : Idx) (d : Byte) (r : Reg8) (s : State) : Framed s (execSllIxdR x d r s) :=
  framed_undocumented (framed_next ((KeepsMemory.of_eq (by simp) (by simp)).trans ((keepsMemory_rotCopy _ _ _ _ _).of_mem rfl rfl)) (by simp))

theorem framed_execSllIxd (x : Idx) (d : Byte) (s : State) : Framed s (execSllIxd x d s) :=
  framed_undocumented (framed_next ((KeepsMemory.of_eq (by simp) (by simp)).trans ((keepsMemory_memWrite _ _ _).of_mem rfl rfl)) (by simp))

theorem framed_execSrlIxdR (x : Idx) (d : Byte) (r : Reg8) (s : State) : Framed s (execSrlIxdR x d r s) :=
  framed_undocumented (framed_next ((KeepsMemory.of_eq (by simp) (by simp)).trans ((keepsMemory_rotCopy _ _ _ _ _).of_mem rfl rfl)) (by simp))

theorem framed_execSrlIxd (x : Idx) (d : Byte) (s : State) : Framed s (execSrlIxd x d s) :=
  framed_next ((KeepsMemory.of_eq (by simp) (by simp)).trans ((keepsMemory_memWrite _ _ _).of_mem rfl rfl)) (by simp)

theorem framed_execBitBIxdZ (x : Idx) (b : BitVec 3) (d : Byte) (z : Reg8) (s : State) : Framed s (execBitBIxdZ x b d z s) :=
  framed_undocumented (framed_next (.of_eq (by simp) (by simp)) (by simp))

theorem framed_execBitBIxd (x : Idx) (b : BitVec 3) (d : Byte) (s : State) : Framed s (execBitBIxd x b d s) :=
  framed_next (.of_eq (by simp) (by simp)) (by simp)

theorem framed_execResBIxdR (x : Idx) (b : BitVec 3) (d : Byte) (r : Reg8) (s : State) : Framed s (execResBIxdR x b d r s) :=
  framed_undocumented (framed_next ((KeepsMemory.of_eq (by simp) (by simp)).trans ((keepsMemory_memWrite _ _ _).of_mem (State.setReg8_mem ..) (State.setReg8_cfg ..))) (by simp))

theorem framed_execResBIxd (x : Idx) (b : BitVec 3) (d : Byte) (s : State) : Framed s (execResBIxd x b d s) :=
  framed_next ((KeepsMemory.of_eq (by simp) (by simp)).trans ((keepsMemory_memWrite _ _ _).of_mem rfl rfl)) (by simp)

theorem framed_execSetBIxdR (x : Idx) (b : BitVec 3) (d : Byte) (r : Reg8) (s : State) : Framed s (execSetBIxdR x b d r s) :=
  framed_undocumented (framed_next ((KeepsMemory.of_eq (by simp) (by simp)).trans ((keepsMemory_memWrite _ _ _).of_mem (State.setReg8_mem ..) (State.setReg8_cfg ..))) (by simp))

theorem framed_execSetBIxd (x : Idx) (b : BitVec 3) (d : Byte) (s : State) : Framed s (execSetBIxd x b d s) :=
  framed_next ((KeepsMemory.of_eq (by simp) (by simp)).trans ((keepsMemory_memWrite _ _ _).of_mem rfl rfl)) (by simp)

/-- Every instruction that completes keeps its frame. -/
theorem exec_frame (i : Instr) (s t : State) (h : exec i s = .next t) : ExecFrame s t := by
  cases i
  case prefixCB => exact framed_execPrefixCB s t h
  case prefixDD => exact framed_execPrefixDD s t h
  case prefixED => exact framed_execPrefixED s t h
  case prefixFD => exact framed_execPrefixFD s t h
  case prefixDDCB x => exact framed_execPrefixDDCB x s t h
  case nop => exact framed_execNop s t h
  case ldDdNn dd nn => exact framed_execLdDdNn dd nn s t h
  case ldBcIndA => exact framed_execLdBcIndA s t h
  case incSs ss => exact framed_execIncSs ss s t h
  case incR r => exact framed_execIncR r s t h
  case decR r => exact framed_execDecR r s t h
  case ldRN r n => exact framed_execLdRN r n s t h
  case rlca => exact framed_execRlca s t h
  case exAfAf => exact framed_execExAfAf s t h
  case addHlSs ss => exact framed_execAddHlSs ss s t h
  case ldABcInd => exact framed_execLdABcInd s t h
  case decSs ss => exact framed_execDecSs ss s t h
  case rrca => exact framed_execRrca s t h
  case djnz e => exact framed_execDjnz e s t h
  case ldDeIndA => exact framed_execLdDeIndA s t h
  case rla => exact framed_execRla s t h
  case jr e => exact framed_execJr e s t h
  case ldADeInd => exact framed_execLdADeInd s t h
  case rra => exact framed_execRra s t h
  case jrCc cc e => exact framed_execJrCc cc e s t h
  case ldNnIndHl nn => exact framed_execLdNnIndHl nn s t h
  case daa => exact framed_execDaa s t h
  case ldHlNnInd nn => exact framed_execLdHlNnInd nn s t h
  case cpl => exact framed_execCpl s t h
  case ldNnIndA nn => exact framed_execLdNnIndA nn s t h
  case incHlInd => exact framed_execIncHlInd s t h
  case decHlInd => exact framed_execDecHlInd s t h
  case ldHlIndN n => exact framed_execLdHlIndN n s t h
  case scf => exact framed_execScf s t h
  case ldANnInd nn => exact framed_execLdANnInd nn s t h
  case ccf => exact framed_execCcf s t h
  case ldRR y z => exact framed_execLdRR y z s t h
  case ldRHlInd r => exact framed_execLdRHlInd r s t h
  case ldHlIndR r => exact framed_execLdHlIndR r s t h
  case halt => exact framed_execHalt s t h
  case addAR r => exact framed_execAddAR r s t h
  case addAHlInd => exact framed_execAddAHlInd s t h
  case adcAR r => exact framed_execAdcAR r s t h
  case adcAHlInd => exact framed_execAdcAHlInd s t h
  case subR r => exact framed_execSubR r s t h
  case subHlInd => exact framed_execSubHlInd s t h
  case sbcAR r => exact framed_execSbcAR r s t h
  case sbcAHlInd => exact framed_execSbcAHlInd s t h
  case andR r => exact framed_execAndR r s t h
  case andHlInd => exact framed_execAndHlInd s t h
  case xorR r => exact framed_execXorR r s t h
  case xorHlInd => exact framed_execXorHlInd s t h
  case orR r => exact framed_execOrR r s t h
  case orHlInd => exact framed_execOrHlInd s t h
  case cpR r => exact framed_execCpR r s t h
  case cpHlInd => exact framed_execCpHlInd s t h
  case retCc cc => exact framed_execRetCc cc s t h
  case popQq qq => exact framed_execPopQq qq s t h
  case jpCcNn cc nn => exact framed_execJpCcNn cc nn s t h
  case jpNn nn => exact framed_execJpNn nn s t h
  case callCcNn cc nn => exact framed_execCallCcNn cc nn s t h
  case pushQq qq => exact framed_execPushQq qq s t h
  case addAN n => exact framed_execAddAN n s t h
  case rst p => exact framed_execRst p s t h
  case ret => exact framed_execRet s t h
  case callNn nn => exact framed_execCallNn nn s t h
  case adcAN n => exact framed_execAdcAN n s t h
  case outNA n => exact framed_execOutNA n s t h
  case subN n => exact framed_execSubN n s t h
  case exx => exact framed_execExx s t h
  case inAN n => exact framed_execInAN n s t h
  case sbcAN n => exact framed_execSbcAN n s t h
  case exSpHl => exact framed_execExSpHl s t h
  case andN n => exact framed_execAndN n s t h
  case jpHl => exact framed_execJpHl s t h
  case exDeHl => exact framed_execExDeHl s t h
  case xorN n => exact framed_execXorN n s t h
  case di => exact framed_execDi s t h
  case orN n => exact framed_execOrN n s t h
  case ldSpHl => exact framed_execLdSpHl s t h
  case ei => exact framed_execEi s t h
  case cpN n => exact framed_execCpN n s t h
  case rlcR r => exact framed_execRlcR r s t h
  case rlcHlInd => exact framed_execRlcHlInd s t h
  case rrcR r => exact framed_execRrcR r s t h
  case rrcHlInd => exact framed_execRrcHlInd s t h
  case rlR r => exact framed_execRlR r s t h
  case rlHlInd => exact framed_execRlHlInd s t h
  case rrR r => exact framed_execRrR r s t h
  case rrHlInd => exact framed_execRrHlInd s t h
  case slaR r => exact framed_execSlaR r s t h
  case slaHlInd => exact framed_execSlaHlInd s t h
  case sraR r => exact framed_execSraR r s t h
  case sraHlInd => exact framed_execSraHlInd s t h
  case sllR r => exact framed_execSllR r s t h
  case sllHlInd => exact framed_execSllHlInd s t h
  case srlR r => exact framed_execSrlR r s t h
  case srlHlInd => exact framed_execSrlHlInd s t h
  case bitBR b r => exact framed_execBitBR b r s t h
  case bitBHlInd b => exact framed_execBitBHlInd b s t h
  case resBR b r => exact framed_execResBR b r s t h
  case resBHlInd b => exact framed_execResBHlInd b s t h
  case setBR b r => exact framed_execSetBR b r s t h
  case setBHlInd b => exact framed_execSetBHlInd b s t h
  case nopEdHole op => exact framed_execNopEdHole op s t h
  case inRC r => exact framed_execInRC r s t h
  case outCR r => exact framed_execOutCR r s t h
  case sbcHlSs ss => exact framed_execSbcHlSs ss s t h
  case ldNnIndDd dd nn => exact framed_execLdNnIndDd dd nn s t h
  case neg => exact framed_execNeg s t h
  case retn => exact framed_execRetn s t h
  case im0 => exact framed_execIm0 s t h
  case ldIA => exact framed_execLdIA s t h
  case adcHlSs ss => exact framed_execAdcHlSs ss s t h
  case ldDdNnInd dd nn => exact framed_execLdDdNnInd dd nn s t h
  case negMirror y => exact framed_execNegMirror y s t h
  case reti => exact framed_execReti s t h
  case imMirror y => exact framed_execImMirror y s t h
  case ldRfshA => exact framed_execLdRfshA s t h
  case retnMirror y => exact framed_execRetnMirror y s t h
  case im1 => exact framed_execIm1 s t h
  case ldAI => exact framed_execLdAI s t h
  case im2 => exact framed_execIm2 s t h
  case ldARfsh => exact framed_execLdARfsh s t h
  case rrd => exact framed_execRrd s t h
  case rld => exact framed_execRld s t h
  case inFC => exact framed_execInFC s t h
  case outC0 => exact framed_execOutC0 s t h
  case ldi => exact framed_execLdi s t h
  case cpi => exact framed_execCpi s t h
  case ini => exact framed_execIni s t h
  case outi => exact framed_execOuti s t h
  case ldd => exact framed_execLdd s t h
  case cpd => exact framed_execCpd s t h
  case ind => exact framed_execInd s t h
  case outd => exact framed_execOutd s t h
  case ldir => exact framed_execLdir s t h
  case cpir => exact framed_execCpir s t h
  case inir => exact framed_execInir s t h
  case otir => exact framed_execOtir s t h
  case lddr => exact framed_execLddr s t h
  case cpdr => exact framed_execCpdr s t h
  case indr => exact framed_execIndr s t h
  case otdr => exact framed_execOtdr s t h
  case addIxPp x pp => exact framed_execAddIxPp x pp s t h
  case ldIxNn x nn => exact framed_execLdIxNn x nn s t h
  case ldNnIndIx x nn => exact framed_execLdNnIndIx x nn s t h
  case incIx x => exact framed_execIncIx x s t h
  case incHalf x p => exact framed_execIncHalf x p s t h
  case decHalf x p => exact framed_execDecHalf x p s t h
  case ldHalfN x p n => exact framed_execLdHalfN x p n s t h
  case ldIxNnInd x nn => exact framed_execLdIxNnInd x nn s t h
  case decIx x => exact framed_execDecIx x s t h
  case incIxd x d => exact framed_execIncIxd x d s t h
  case decIxd x d => exact framed_execDecIxd x d s t h
  case ldIxdN x d n => exact framed_execLdIxdN x d n s t h
  case ldHalves x y z => exact framed_execLdHalves x y z s t h
  case ldRIxd x r d => exact framed_execLdRIxd x r d s t h
  case ldIxdR x d r => exact framed_execLdIxdR x d r s t h
  case addAHalf x p => exact framed_execAddAHalf x p s t h
  case addAIxd x d => exact framed_execAddAIxd x d s t h
  case adcAHalf x p => exact framed_execAdcAHalf x p s t h
  case adcAIxd x d => exact framed_execAdcAIxd x d s t h
  case subHalf x p => exact framed_execSubHalf x p s t h
  case subIxd x d => exact framed_execSubIxd x d s t h
  case sbcAHalf x p => exact framed_execSbcAHalf x p s t h
  case sbcAIxd x d => exact framed_execSbcAIxd x d s t h
  case andHalf x p => exact framed_execAndHalf x p s t h
  case andIxd x d => exact framed_execAndIxd x d s t h
  case xorHalf x p => exact framed_execXorHalf x p s t h
  case xorIxd x d => exact framed_execXorIxd x d s t h
  case orHalf x p => exact framed_execOrHalf x p s t h
  case orIxd x d => exact framed_execOrIxd x d s t h
  case cpHalf x p => exact framed_execCpHalf x p s t h
  case cpIxd x d => exact framed_execCpIxd x d s t h
  case popIx x => exact framed_execPopIx x s t h
  case exSpIx x => exact framed_execExSpIx x s t h
  case pushIx x => exact framed_execPushIx x s t h
  case jpIx x => exact framed_execJpIx x s t h
  case ldSpIx x => exact framed_execLdSpIx x s t h
  case rlcIxdR x d r => exact framed_execRlcIxdR x d r s t h
  case rlcIxd x d => exact framed_execRlcIxd x d s t h
  case rrcIxdR x d r => exact framed_execRrcIxdR x d r s t h
  case rrcIxd x d => exact framed_execRrcIxd x d s t h
  case rlIxdR x d r => exact framed_execRlIxdR x d r s t h
  case rlIxd x d => exact framed_execRlIxd x d s t h
  case rrIxdR x d r => exact framed_execRrIxdR x d r s t h
  case rrIxd x d => exact framed_execRrIxd x d s t h
  case slaIxdR x d r => exact framed_execSlaIxdR x d r s t h
  case slaIxd x d => exact framed_execSlaIxd x d s t h
  case sraIxdR x d r => exact framed_execSraIxdR x d r s t h
  case sraIxd x d => exact framed_execSraIxd x d s t h
  case sllIxdR x d r => exact framed_execSllIxdR x d r s t h
  case sllIxd x d => exact framed_execSllIxd x d s t h
  case srlIxdR x d r => exact framed_execSrlIxdR x d r s t h
  case srlIxd x d => exact framed_execSrlIxd x d s t h
  case bitBIxdZ x b d z => exact framed_execBitBIxdZ x b d z s t h
  case bitBIxd x b d => exact framed_execBitBIxd x b d s t h
  case resBIxdR x b d r => exact framed_execResBIxdR x b d r s t h
  case resBIxd x b d => exact framed_execResBIxd x b d s t h
  case setBIxdR x b d r => exact framed_execSetBIxdR x b d r s t h
  case setBIxd x b d => exact framed_execSetBIxd x b d s t h

end Sys2Proof.Machine
end

