-- ==== Sys2Proof/Laws/Run.lean ====
section
/-!
SUPPORT. Sys2Proof/Laws/Run.lean: what a stuck state and a final state are, and where a run ends, said once.
-/

namespace Sys2Proof.Machine

/-- Stuck is what meets an endless prefix chain (R503). -/
theorem State.isStuck_iff {s : State} : s.isStuck = true ↔ step s = .fault .prefixHang := by
  unfold State.isStuck
  split <;> simp_all

/-- What a final state is (R575). -/
theorem State.isFinal_iff {s : State} :
    s.isFinal = true ↔
      s.pc ∈ s.cfg.endPcs ∧ s.halted = false ∧ s.faulted = none ∧ s.refused = none ∧ step s ≠ .fault .prefixHang := by
  simp [State.isFinal, ← State.isStuck_iff, and_assoc]

/-- A run ends in `t` exactly if `t` is the first final boundary on the way (R575). -/
theorem State.run_eq_final {s t : State} {fuel : Nat} :
    s.run fuel = .final t ↔
      ∃ n, n ≤ fuel ∧ s.afterSteps n = some t ∧ t.isFinal = true ∧
        ∀ m, m < n → ∀ u, s.afterSteps m = some u → u.isFinal = false := by
  induction fuel generalizing s with
  | zero =>
    unfold State.run
    constructor
    · intro h
      split at h <;> cases h
      exact ⟨0, Nat.le_refl 0, rfl, ‹_›, by simp⟩
    · rintro ⟨n, hn, ht, hf, -⟩
      obtain rfl := Nat.le_zero.mp hn
      cases ht
      simp [hf]
  | succ fuel ih =>
    rw [State.run]
    by_cases hs : s.isFinal = true
    · simp only [hs, if_true, RunEnd.final.injEq]
      constructor
      · rintro rfl
        exact ⟨0, Nat.zero_le _, rfl, hs, by simp⟩
      · rintro ⟨n, -, ht, -, hm⟩
        cases n with
        | zero => exact Option.some.inj ht
        | succ n => exact absurd (hm 0 n.succ_pos s rfl) (by simp [hs])
    · simp only [hs, Bool.false_eq_true, if_false]
      cases hstep : step s with
      | next u =>
        simp only [ih]
        constructor
        · rintro ⟨n, hn, ht, hf, hm⟩
          refine ⟨n + 1, by omega, by simpa [State.afterSteps, hstep] using ht, hf, fun m hlt v hv => ?_⟩
          cases m with
          | zero => cases hv; simpa using hs
          | succ m => exact hm m (by omega) v (by simpa [State.afterSteps, hstep] using hv)
        · rintro ⟨n, hn, ht, hf, hm⟩
          cases n with
          | zero => cases ht; exact absurd hf hs
          | succ n =>
            refine ⟨n, by omega, by simpa [State.afterSteps, hstep] using ht, hf, fun m hlt v hv => ?_⟩
            exact hm (m + 1) (by omega) v (by simpa [State.afterSteps, hstep] using hv)
      | fault x =>
        refine ⟨fun h => by (cases x <;> cases h), ?_⟩
        rintro ⟨n, -, ht, hf, -⟩
        cases n with
        | zero => cases ht; exact absurd hf hs
        | succ n => simp [State.afterSteps, hstep] at ht
      | refused x =>
        refine ⟨nofun, ?_⟩
        rintro ⟨n, -, ht, hf, -⟩
        cases n with
        | zero => cases ht; exact absurd hf hs
        | succ n => simp [State.afterSteps, hstep] at ht

end Sys2Proof.Machine
end

