-- ==== Sys2Proof/Laws/Step.lean ====
section
/-!
SUPPORT. Sys2Proof/Laws/Step.lean: everything a step can do, said once: the guard of UNSET_READ, the acknowledges, and the cases of
a step that answers a next state.
-/

namespace Sys2Proof.Machine

/-! ### The guard -/

/-- Under UNSET_READ = draw the guard does nothing (R62). -/
theorem State.guardUnset_draw {s : State} (h : s.cfg.unsetRead = .draw) (locs : List Loc) (marks : List Loc → List Loc)
    (res : Result) : s.guardUnset locs marks res = res := by
  simp [State.guardUnset, h]

/-- A guarded step that answers a next state answers the unguarded one, but for the marks (R62). -/
theorem State.guardUnset_next {s t : State} {locs : List Loc} {marks : List Loc → List Loc} {res : Result}
    (h : s.guardUnset locs marks res = .next t) :
    ∃ u, res = .next u ∧ t = { u with unset := t.unset } ∧
      (s.cfg.unsetRead = .draw ∧ t.unset = u.unset ∨ s.cfg.unsetRead = .fault ∧ t.unset = marks s.unset) := by
  unfold State.guardUnset at h
  split at h
  · exact ⟨t, h, rfl, .inl ⟨‹_›, rfl⟩⟩
  · split at h
    · split at h
      · cases h
      · cases h; exact ⟨_, rfl, rfl, .inr ⟨‹_›, rfl⟩⟩
    · rename_i hn; exact absurd h (hn _)

/-- A guarded step that faults does so on a marked location, or was a fault without the guard (R62). -/
theorem State.guardUnset_fault {s : State} {locs : List Loc} {marks : List Loc → List Loc} {res : Result} {x : Fault}
    (h : s.guardUnset locs marks res = .fault x) :
    res = .fault x ∨
      s.cfg.unsetRead = .fault ∧ ∃ loc, loc ∈ locs ∧ loc ∈ s.unset ∧ x = .invariant (.unsetRead loc) := by
  unfold State.guardUnset at h
  split at h
  · exact .inl h
  · split at h
    · split at h
      · rename_i loc hf
        cases h
        have := List.find?_some hf
        exact .inr ⟨‹_›, loc, List.mem_of_find?_eq_some hf, by simpa using this, rfl⟩
      · cases h
    · exact .inl h

/-- The guard refuses nothing of its own, and lets no refusal through as anything else (R62, R502). -/
theorem State.guardUnset_refused {s : State} {locs : List Loc} {marks : List Loc → List Loc} {res : Result} {x : Refusal} :
    s.guardUnset locs marks res = .refused x ↔ res = .refused x := by
  unfold State.guardUnset
  split
  · rfl
  · split
    · split <;> simp
    · rfl

/-! ### The acknowledges -/

/-- What taking an interrupt does, in one update (R530, R531, R533): the Word at `entry` may be read from memory after the push. -/
theorem State.enterHandler_eq (s : State) (iff2 : Bool) (t : Nat) (target : State → Word) :
    s.enterHandler iff2 t target =
      let u := s.enterHandler iff2 t target
      { s.advance 0 1 t with halted := false, iff1 := false, iff2 := iff2, sp := s.sp - 2, pc := u.pc, mem := u.mem } := by
  rw [State.advance_def]
  apply State.eq_of_fields <;> simp
  bv_omega

/-- It pushes PC (R530, R531, R533). -/
theorem storesWord_enterHandler (s : State) (iff2 : Bool) (t : Nat) (target : State → Word) :
    StoresWord s (s.enterHandler iff2 t target) (s.sp - 2) s.pc :=
  (storesWord_push { s with halted := false, eiShadow := false, iff1 := false, iff2 := iff2, r := incRefresh 1 s.r }
    s.pc).of_eq rfl rfl rfl

/-- A fixed entry address is where PC goes (R530, R531). -/
@[simp] theorem State.enterHandler_pc_const (s : State) (iff2 : Bool) (t : Nat) (w : Word) :
    (s.enterHandler iff2 t (fun _ => w)).pc = w := rfl

/-- A vectored entry address is read from memory after the push (R533). -/
theorem State.enterHandler_pc_read (s : State) (iff2 : Bool) (t : Nat) (a : Word) :
    (s.enterHandler iff2 t (fun u => u.memRead16 a)).pc = (s.enterHandler iff2 t (fun u => u.memRead16 a)).wordAt a := by
  rw [← State.memRead16_eq]; rfl

/-! ### The cases of a step -/

/-- From an engine-ready state a step is the engine step (R520). -/
theorem step_of_ready {s : State} (h : s.engineReady) : step s = (s.tick.latchNmi s.intNow).engineBody s.intNow := by
  obtain ⟨h1, h2, h3⟩ := h
  simp [step, State.boundary, State.engine, h1, h2, h3]

/-- With no edge the latch is as it was (R511). -/
theorem State.latchNmi_quiet {s : State} {k : IntSample} (h : k.nmiEdge = false) : s.latchNmi k = s := by
  simp [State.latchNmi, h]

/-- The mark a marked state's step answers (R64). -/
theorem step_of_marked {s : State} (h : s.resetNow = false) :
    (∀ r, s.faulted = some r → step s = .fault (.invariant r)) ∧
    (s.faulted = none → ∀ r, s.refused = some r → step s = .refused r) := by
  constructor <;> intros <;> simp [step, State.boundary, *]

/-- Everything a step that answers a next state can have done (R520, R601): a warm reset; an NMI acknowledge; a maskable
acknowledge; a halted tick; or an instruction, whose body `exec` is, with the wasted prefix bytes and the marks around it. -/
theorem step_cases {s t : State} (h : step s = .next t) :
    s.resetNow = true ∧ t = s.tick.warmReset ∨
    s.engineReady ∧ ∃ s', s' = s.tick.latchNmi s.intNow ∧
      (s'.nmiLatch = true ∧ t = s'.nmiAck ∨
       s'.nmiLatch = false ∧ s.acceptsInt s.intNow = true ∧ s'.intAck s.intNow.intData = .next t ∨
       s'.nmiLatch = false ∧ s.acceptsInt s.intNow = false ∧ s.halted = true ∧ t = s'.haltTick ∨
       s'.nmiLatch = false ∧ s.acceptsInt s.intNow = false ∧ s.halted = false ∧
         ∃ d u, decodeFrom s.memRead s.pc = .ok d ∧ exec d.instr (s'.skipPrefixes d.wasted.length) = .next u ∧
           t = { u with clock := u.clock + 4 * d.wasted.length, unset := t.unset } ∧
           (s.cfg.unsetRead = .draw ∧ t.unset = u.unset ∨
            s.cfg.unsetRead = .fault ∧ t.unset = marksAfter d.instr s.unset)) := by
  by_cases hr : s.resetNow = true
  · simp only [step, State.boundary, hr, if_true] at h
    cases h; exact .inl ⟨hr, rfl⟩
  · simp only [Bool.not_eq_true] at hr
    have hready : s.engineReady := by
      refine ⟨hr, ?_, ?_⟩ <;> simp only [step, State.boundary, hr, Bool.false_eq_true, if_false] at h <;>
        (split at h <;> first | assumption | cases h)
    refine .inr ⟨hready, _, rfl, ?_⟩
    rw [step_of_ready hready] at h
    have same : ∀ u : State, u.unset = s.unset → ∀ v : State, v = { u with unset := v.unset } → v.unset = s.unset → v = u := by
      intro u hu v hv hv'; rw [hv, hv', ← hu]
    unfold State.engineBody at h
    split at h
    · obtain ⟨u, hu, ht, hm⟩ := State.guardUnset_next h
      cases hu
      refine .inl ⟨‹_›, same _ ?_ t ht ?_⟩
      · simp [State.nmiAck]
      · rcases hm with ⟨_, hm⟩ | ⟨_, hm⟩ <;> simp [hm, State.nmiAck]
    · rename_i hn
      simp only [Bool.not_eq_true] at hn
      split at h
      · obtain ⟨u, hu, ht, hm⟩ := State.guardUnset_next h
        have huu : u.unset = s.unset := by
          unfold State.intAck at hu
          repeat' split at hu
          all_goals cases hu
          all_goals simp
        have : t.unset = s.unset := by
          rcases hm with ⟨_, hm⟩ | ⟨_, hm⟩ <;> simp [hm, huu]
        refine .inr (.inl ⟨hn, ‹_›, ?_⟩)
        rw [hu, same u huu t ht this]
      · rename_i ha
        simp only [Bool.not_eq_true] at ha
        split at h
        · cases h; exact .inr (.inr (.inl ⟨hn, ha, ‹_›, rfl⟩))
        · rename_i hh
          simp only [Bool.not_eq_true] at hh
          unfold State.instrStep at h
          split at h
          · rename_i d hd
            obtain ⟨u, hu, ht, hm⟩ := State.guardUnset_next h
            cases he : exec d.instr ((s.tick.latchNmi s.intNow).skipPrefixes d.wasted.length) with
            | next v =>
              rw [he] at hu
              cases hu
              exact .inr (.inr (.inr ⟨hn, ha, hh, d, v, hd, he, ht, hm⟩))
            | fault x => rw [he] at hu; cases hu
            | refused x => rw [he] at hu; cases hu
          · cases h

end Sys2Proof.Machine
end

