-- ==== Sys2Proof/Tests/Slice0.lean ====
section
/-!
SUPPORT. Sys2Proof/Tests/Slice0.lean: tests of the model. Expected values come from spec/: the encodings of the rules for the
decode tests, spec/95_test_vectors.md for the steps (a name ends with the vector's id), and for the statements with
hypotheses a state that meets them, at the ends of their ranges.
-/

namespace Sys2Proof.Machine

/-- Bytes placed in memory. -/
def State.put (s : State) (a : Word) (bytes : List Byte) : State := { s with mem := Memory.place s.mem a bytes }

/-- The state with the samples of INT_ENV for the boundaries to come. -/
def State.samples (s : State) (samples : List IntSample) : State := { s with env := { s.env with int := .schedule samples } }

end Sys2Proof.Machine

namespace Sys2Proof.Tests

open Sys2Proof.Machine

/-! ### Helpers -/

/-- The fixture of spec/95_test_vectors.md section 0. -/
def base : State :=
  { State.powerOn Params.standard { Env.quiet with port := .answers [0xFF] } [] ⟨0, 0, 0, 0, 0, 0, 0, 0, 0, 0, 0xFFFE⟩ with
    pc := 0x8000 }

/-- Inputs whose port reads answer one byte. -/
def portAnswers (v : Byte) : Env := { Env.quiet with port := .answers [v, v] }

/-- The state one step leads to. -/
def after (s : State) : Option State :=
  match step s with
  | .next t => some t
  | _ => none

/-- The fault one step ends in. -/
def faultOf (s : State) : Option Fault :=
  match step s with
  | .fault x => some x
  | _ => none

/-- The refusal one step ends in. -/
def refusalOf (s : State) : Option Refusal :=
  match step s with
  | .refused x => some x
  | _ => none

/-- One step with the bytes placed at PC. -/
def runs (bytes : List Byte) (s : State) : Option State := after (s.put s.pc bytes)

/-- What decode reads from the bytes, and zeros after them. -/
def decoded (bytes : List Byte) : Option Decoded :=
  match decodeFrom (fun a => bytes.getD a.toNat 0) 0 with
  | .ok d => some d
  | .prefixHang => none

/-- Do the bytes decode to the instruction, with no wasted prefix, and do they have its length? -/
def reads (bytes : List Byte) (i : Instr) : Bool := decoded bytes == some ⟨[], i⟩ && i.info.length == bytes.length

/-- The text of the bytes. -/
def text (bytes : List Byte) : Option String := (decoded bytes).map disassemble

/-! ### Ill-formed terms: each check of `Instr.wf` refuses one -/

theorem test_wf_refuses_prefix_rows :
    [Instr.prefixCB, .prefixDD, .prefixED, .prefixFD, .prefixDDCB .ix, .prefixDDCB .iy].any Instr.wf = false := by decide
theorem test_wf_refuses_hole_that_is_ldir : (Instr.nopEdHole 0xB0).wf = false := by decide
theorem test_wf_refuses_neg_mirror_of_the_documented_row : (Instr.negMirror 0).wf = false := by decide
theorem test_wf_refuses_retn_mirror_of_retn_and_reti : ((Instr.retnMirror 0).wf || (Instr.retnMirror 1).wf) = false := by decide
theorem test_wf_refuses_im_mirror_of_the_documented_rows :
    ((Instr.imMirror 0).wf || (Instr.imMirror 2).wf || (Instr.imMirror 3).wf) = false := by decide
theorem test_wf_refuses_index_halves_without_a_half : (Instr.ldHalves .ix .b .c).wf = false := by decide
theorem test_wf_accepts_the_mirrors_and_halves :
    ((Instr.nopEdHole 0x77).wf && (Instr.negMirror 1).wf && (Instr.retnMirror 2).wf && (Instr.imMirror 1).wf &&
      (Instr.imMirror 4).wf && (Instr.ldHalves .ix .xh .c).wf) = true := by decide

/-! ### Decoding: a word of every constructor, written out from the encoding of its rule -/

theorem test_decode_quarter_0_pairs_and_memory :
    (reads [0x00] .nop && reads [0x01, 0x34, 0x12] (.ldDdNn .bc 0x1234) && reads [0x31, 0xCD, 0xAB] (.ldDdNn .sp 0xABCD) &&
      reads [0x02] .ldBcIndA && reads [0x12] .ldDeIndA && reads [0x0A] .ldABcInd && reads [0x1A] .ldADeInd &&
      reads [0x22, 0x00, 0x90] (.ldNnIndHl 0x9000) && reads [0x2A, 0xFF, 0x00] (.ldHlNnInd 0x00FF) &&
      reads [0x32, 0x01, 0xA0] (.ldNnIndA 0xA001) && reads [0x3A, 0x34, 0x12] (.ldANnInd 0x1234) &&
      reads [0x13] (.incSs .de) && reads [0x33] (.incSs .sp) && reads [0x2B] (.decSs .hl) && reads [0x09] (.addHlSs .bc) &&
      reads [0x39] (.addHlSs .sp) && reads [0x08] .exAfAf) = true := by decide
theorem test_decode_quarter_0_bytes_and_jumps :
    (reads [0x04] (.incR .b) && reads [0x3C] (.incR .a) && reads [0x0D] (.decR .c) && reads [0x16, 0x5A] (.ldRN .d 0x5A) &&
      reads [0x34] .incHlInd && reads [0x35] .decHlInd && reads [0x36, 0xAA] (.ldHlIndN 0xAA) &&
      reads [0x07] .rlca && reads [0x0F] .rrca && reads [0x17] .rla && reads [0x1F] .rra && reads [0x27] .daa &&
      reads [0x2F] .cpl && reads [0x37] .scf && reads [0x3F] .ccf &&
      reads [0x10, 0xFE] (.djnz 0xFE) && reads [0x18, 0x80] (.jr 0x80) && reads [0x20, 0x05] (.jrCc .nz 0x05) &&
      reads [0x38, 0x7F] (.jrCc .c 0x7F)) = true := by decide
theorem test_decode_quarters_1_and_2 :
    (reads [0x41] (.ldRR .b .c) && reads [0x6F] (.ldRR .l .a) && reads [0x7F] (.ldRR .a .a) && reads [0x5E] (.ldRHlInd .e) &&
      reads [0x74] (.ldHlIndR .h) && reads [0x77] (.ldHlIndR .a) && reads [0x76] .halt &&
      reads [0x81] (.addAR .c) && reads [0x86] .addAHlInd && reads [0x8F] (.adcAR .a) && reads [0x8E] .adcAHlInd &&
      reads [0x92] (.subR .d) && reads [0x96] .subHlInd && reads [0x9B] (.sbcAR .e) && reads [0x9E] .sbcAHlInd &&
      reads [0xA4] (.andR .h) && reads [0xA6] .andHlInd && reads [0xAD] (.xorR .l) && reads [0xAE] .xorHlInd &&
      reads [0xB0] (.orR .b) && reads [0xB6] .orHlInd && reads [0xB9] (.cpR .c) && reads [0xBE] .cpHlInd) = true := by decide
theorem test_decode_quarter_3_control :
    (reads [0xC0] (.retCc .nz) && reads [0xF8] (.retCc .m) && reads [0xC1] (.popQq .bc) && reads [0xF1] (.popQq .af) &&
      reads [0xD5] (.pushQq .de) && reads [0xE5] (.pushQq .hl) && reads [0xC3, 0x34, 0x12] (.jpNn 0x1234) &&
      reads [0xEA, 0x00, 0x90] (.jpCcNn .pe 0x9000) && reads [0xD2, 0x01, 0x00] (.jpCcNn .nc 0x0001) &&
      reads [0xCD, 0x00, 0x90] (.callNn 0x9000) && reads [0xE4, 0x00, 0x90] (.callCcNn .po 0x9000) && reads [0xC9] .ret &&
      reads [0xC7] (.rst 0) && reads [0xFF] (.rst 7) && reads [0xE9] .jpHl && reads [0xF9] .ldSpHl && reads [0xEB] .exDeHl &&
      reads [0xE3] .exSpHl && reads [0xD9] .exx && reads [0xF3] .di && reads [0xFB] .ei) = true := by decide
theorem test_decode_quarter_3_immediates_and_ports :
    (reads [0xC6, 0x01] (.addAN 0x01) && reads [0xCE, 0xFF] (.adcAN 0xFF) && reads [0xD6, 0x80] (.subN 0x80) &&
      reads [0xDE, 0x7F] (.sbcAN 0x7F) && reads [0xE6, 0x0F] (.andN 0x0F) && reads [0xEE, 0xF0] (.xorN 0xF0) &&
      reads [0xF6, 0x55] (.orN 0x55) && reads [0xFE, 0xAA] (.cpN 0xAA) && reads [0xD3, 0xFE] (.outNA 0xFE) &&
      reads [0xDB, 0xFE] (.inAN 0xFE)) = true := by decide
theorem test_decode_cb :
    (reads [0xCB, 0x00] (.rlcR .b) && reads [0xCB, 0x06] .rlcHlInd && reads [0xCB, 0x09] (.rrcR .c) && reads [0xCB, 0x0E] .rrcHlInd &&
      reads [0xCB, 0x12] (.rlR .d) && reads [0xCB, 0x16] .rlHlInd && reads [0xCB, 0x1B] (.rrR .e) && reads [0xCB, 0x1E] .rrHlInd &&
      reads [0xCB, 0x24] (.slaR .h) && reads [0xCB, 0x26] .slaHlInd && reads [0xCB, 0x2D] (.sraR .l) && reads [0xCB, 0x2E] .sraHlInd &&
      reads [0xCB, 0x37] (.sllR .a) && reads [0xCB, 0x36] .sllHlInd && reads [0xCB, 0x38] (.srlR .b) && reads [0xCB, 0x3E] .srlHlInd &&
      reads [0xCB, 0x47] (.bitBR 0 .a) && reads [0xCB, 0x7E] (.bitBHlInd 7) && reads [0xCB, 0x9C] (.resBR 3 .h) &&
      reads [0xCB, 0x86] (.resBHlInd 0) && reads [0xCB, 0xE9] (.setBR 5 .c) && reads [0xCB, 0xF6] (.setBHlInd 6)) = true := by decide
theorem test_decode_ed_registers :
    (reads [0xED, 0x40] (.inRC .b) && reads [0xED, 0x78] (.inRC .a) && reads [0xED, 0x49] (.outCR .c) && reads [0xED, 0x70] .inFC &&
      reads [0xED, 0x71] .outC0 && reads [0xED, 0x52] (.sbcHlSs .de) && reads [0xED, 0x7A] (.adcHlSs .sp) &&
      reads [0xED, 0x73, 0x00, 0x90] (.ldNnIndDd .sp 0x9000) && reads [0xED, 0x6B, 0x34, 0x12] (.ldDdNnInd .hl 0x1234) &&
      reads [0xED, 0x44] .neg && reads [0xED, 0x4C] (.negMirror 1) && reads [0xED, 0x7C] (.negMirror 7) && reads [0xED, 0x45] .retn &&
      reads [0xED, 0x4D] .reti && reads [0xED, 0x55] (.retnMirror 2) && reads [0xED, 0x7D] (.retnMirror 7) &&
      reads [0xED, 0x46] .im0 && reads [0xED, 0x56] .im1 && reads [0xED, 0x5E] .im2 && reads [0xED, 0x4E] (.imMirror 1) &&
      reads [0xED, 0x76] (.imMirror 6) && reads [0xED, 0x47] .ldIA && reads [0xED, 0x4F] .ldRfshA && reads [0xED, 0x57] .ldAI &&
      reads [0xED, 0x5F] .ldARfsh && reads [0xED, 0x67] .rrd && reads [0xED, 0x6F] .rld) = true := by decide
theorem test_decode_ed_blocks_and_holes :
    (reads [0xED, 0xA0] .ldi && reads [0xED, 0xA1] .cpi && reads [0xED, 0xA2] .ini && reads [0xED, 0xA3] .outi &&
      reads [0xED, 0xA8] .ldd && reads [0xED, 0xA9] .cpd && reads [0xED, 0xAA] .ind && reads [0xED, 0xAB] .outd &&
      reads [0xED, 0xB0] .ldir && reads [0xED, 0xB1] .cpir && reads [0xED, 0xB2] .inir && reads [0xED, 0xB3] .otir &&
      reads [0xED, 0xB8] .lddr && reads [0xED, 0xB9] .cpdr && reads [0xED, 0xBA] .indr && reads [0xED, 0xBB] .otdr &&
      reads [0xED, 0x00] (.nopEdHole 0x00) && reads [0xED, 0x3F] (.nopEdHole 0x3F) && reads [0xED, 0x77] (.nopEdHole 0x77) &&
      reads [0xED, 0xA4] (.nopEdHole 0xA4) && reads [0xED, 0xBF] (.nopEdHole 0xBF) && reads [0xED, 0xDD] (.nopEdHole 0xDD) &&
      reads [0xED, 0xFF] (.nopEdHole 0xFF)) = true := by decide
theorem test_decode_index_pairs_and_loads :
    (reads [0xFD, 0x19] (.addIxPp .iy .de) && reads [0xDD, 0x29] (.addIxPp .ix .self) &&
      reads [0xDD, 0x21, 0x34, 0x12] (.ldIxNn .ix 0x1234) &&
      reads [0xFD, 0x22, 0x00, 0x90] (.ldNnIndIx .iy 0x9000) && reads [0xDD, 0x2A, 0xFF, 0x00] (.ldIxNnInd .ix 0x00FF) &&
      reads [0xDD, 0x23] (.incIx .ix) && reads [0xFD, 0x2B] (.decIx .iy) && reads [0xDD, 0x2C] (.incHalf .ix .xl) &&
      reads [0xFD, 0x25] (.decHalf .iy .xh) && reads [0xFD, 0x2E, 0x44] (.ldHalfN .iy .xl 0x44) &&
      reads [0xDD, 0x34, 0x7F] (.incIxd .ix 0x7F) && reads [0xFD, 0x35, 0x80] (.decIxd .iy 0x80) &&
      reads [0xDD, 0x36, 0x05, 0x99] (.ldIxdN .ix 0x05 0x99) && reads [0xDD, 0x60] (.ldHalves .ix .xh .b) &&
      reads [0xFD, 0x6C] (.ldHalves .iy .xl .xh) && reads [0xDD, 0x7D] (.ldHalves .ix .a .xl) &&
      reads [0xDD, 0x66, 0x01] (.ldRIxd .ix .h 0x01) &&
      reads [0xFD, 0x77, 0x7F] (.ldIxdR .iy 0x7F .a) && reads [0xDD, 0xE1] (.popIx .ix) && reads [0xFD, 0xE3] (.exSpIx .iy) &&
      reads [0xDD, 0xE5] (.pushIx .ix) && reads [0xFD, 0xE9] (.jpIx .iy) && reads [0xDD, 0xF9] (.ldSpIx .ix)) = true := by decide
theorem test_decode_index_arithmetic :
    (reads [0xDD, 0x84] (.addAHalf .ix .xh) && reads [0xDD, 0x86, 0xFE] (.addAIxd .ix 0xFE) && reads [0xFD, 0x8D] (.adcAHalf .iy .xl) &&
      reads [0xFD, 0x8E, 0x01] (.adcAIxd .iy 0x01) && reads [0xDD, 0x95] (.subHalf .ix .xl) && reads [0xDD, 0x96, 0x02] (.subIxd .ix 0x02) &&
      reads [0xFD, 0x9C] (.sbcAHalf .iy .xh) && reads [0xFD, 0x9E, 0x03] (.sbcAIxd .iy 0x03) && reads [0xDD, 0xA4] (.andHalf .ix .xh) &&
      reads [0xDD, 0xA6, 0x04] (.andIxd .ix 0x04) && reads [0xFD, 0xAD] (.xorHalf .iy .xl) && reads [0xFD, 0xAE, 0x05] (.xorIxd .iy 0x05) &&
      reads [0xDD, 0xB5] (.orHalf .ix .xl) && reads [0xDD, 0xB6, 0x06] (.orIxd .ix 0x06) && reads [0xFD, 0xBC] (.cpHalf .iy .xh) &&
      reads [0xFD, 0xBE, 0x07] (.cpIxd .iy 0x07)) = true := by decide
theorem test_decode_index_cb_rotates :
    (reads [0xDD, 0xCB, 0x01, 0x06] (.rlcIxd .ix 0x01) && reads [0xFD, 0xCB, 0x02, 0x00] (.rlcIxdR .iy 0x02 .b) &&
      reads [0xDD, 0xCB, 0x03, 0x0E] (.rrcIxd .ix 0x03) && reads [0xFD, 0xCB, 0x04, 0x09] (.rrcIxdR .iy 0x04 .c) &&
      reads [0xDD, 0xCB, 0x05, 0x16] (.rlIxd .ix 0x05) && reads [0xFD, 0xCB, 0x06, 0x12] (.rlIxdR .iy 0x06 .d) &&
      reads [0xDD, 0xCB, 0x07, 0x1E] (.rrIxd .ix 0x07) && reads [0xFD, 0xCB, 0x08, 0x1B] (.rrIxdR .iy 0x08 .e) &&
      reads [0xDD, 0xCB, 0x09, 0x26] (.slaIxd .ix 0x09) && reads [0xFD, 0xCB, 0x0A, 0x24] (.slaIxdR .iy 0x0A .h) &&
      reads [0xDD, 0xCB, 0x0B, 0x2E] (.sraIxd .ix 0x0B) && reads [0xFD, 0xCB, 0x0C, 0x2D] (.sraIxdR .iy 0x0C .l) &&
      reads [0xDD, 0xCB, 0x0D, 0x36] (.sllIxd .ix 0x0D) && reads [0xFD, 0xCB, 0x0E, 0x37] (.sllIxdR .iy 0x0E .a) &&
      reads [0xDD, 0xCB, 0x80, 0x3E] (.srlIxd .ix 0x80) && reads [0xFD, 0xCB, 0xFF, 0x3A] (.srlIxdR .iy 0xFF .d)) = true := by decide
theorem test_decode_index_cb_bits :
    (reads [0xDD, 0xCB, 0x10, 0x66] (.bitBIxd .ix 4 0x10) && reads [0xFD, 0xCB, 0x00, 0x40] (.bitBIxdZ .iy 0 0x00 .b) &&
      reads [0xFD, 0xCB, 0x03, 0xBE] (.resBIxd .iy 7 0x03) && reads [0xDD, 0xCB, 0x04, 0x8A] (.resBIxdR .ix 1 0x04 .d) &&
      reads [0xDD, 0xCB, 0x05, 0xD6] (.setBIxd .ix 2 0x05) && reads [0xDD, 0xCB, 0x02, 0xC0] (.setBIxdR .ix 0 0x02 .b)) = true := by decide

/-- R153: the last prefix byte is in effect, those before it are wasted; a prefix byte before a byte that is not indexed, or
before ED, is wasted too. -/
theorem test_decode_wasted_prefixes :
    decoded [0xDD, 0xFD, 0x21, 0x34, 0x12] = some ⟨[.ix], .ldIxNn .iy 0x1234⟩ ∧ decoded [0xDD, 0x47] = some ⟨[.ix], .ldRR .b .a⟩ ∧
      decoded [0xFD, 0xED, 0xB0] = some ⟨[.iy], .ldir⟩ ∧ decoded [0xFD, 0xDD, 0xFD, 0x00] = some ⟨[.iy, .ix, .iy], .nop⟩ ∧
      decoded [0xDD, 0xEB] = some ⟨[.ix], .exDeHl⟩ := by decide

/-- Decoding wraps at the top of memory (R141). -/
theorem test_decode_wraps_at_the_top_of_memory :
    decodeFrom (fun a => if a = 0xFFFF then 0x01 else if a = 0x0000 then 0x34 else if a = 0x0001 then 0x12 else 0) 0xFFFF =
      .ok ⟨[], .ldDdNn .bc 0x1234⟩ := by decide

/-! ### The texts of spec/95_test_vectors.md section 1.1 -/

theorem test_text_loads :
    text [0x3E, 0x80] = some "LD A,0x80" ∧ text [0x01, 0x34, 0x12] = some "LD BC,0x1234" ∧
      text [0xDD, 0x46, 0x80] = some "LD B,(IX-0x80)" ∧ text [0xFD, 0x77, 0x7F] = some "LD (IY+0x7F),A" ∧
      text [0xDD, 0x60] = some "LD IXH,B" := by decide
theorem test_text_jumps :
    text [0x18, 0xFE] = some "JR $" ∧ text [0x18, 0x7F] = some "JR $+129" ∧ text [0x18, 0x80] = some "JR $-126" ∧
      text [0xFF] = some "RST 0x38" := by decide
theorem test_text_undocumented :
    text [0xCB, 0x30] = some "SLL B" ∧ text [0xFD, 0xCB, 0xFF, 0x3A] = some "SRL (IY-0x01),D" ∧
      text [0xED, 0x70] = some "IN F,(C)" ∧ text [0xED, 0x71] = some "OUT (C),0" ∧ text [0xED, 0x4E] = some "IM 0" := by decide
theorem test_text_holes_and_wasted_prefixes :
    text [0xED, 0x77] = some "DB 0xED,0x77" ∧ text [0xDD, 0x47] = some "[DD] LD B,A" := by decide

/-! ### The same texts assembled (R162), and the spellings of R159 -/

theorem test_assemble_loads :
    assemble "LD A,0x80" = some [0x3E, 0x80] ∧ assemble "LD BC,0x1234" = some [0x01, 0x34, 0x12] ∧
      assemble "LD B,(IX-0x80)" = some [0xDD, 0x46, 0x80] ∧ assemble "LD (IY+0x7F),A" = some [0xFD, 0x77, 0x7F] := by decide
theorem test_assemble_jumps :
    assemble "JR $" = some [0x18, 0xFE] ∧ assemble "JR $+129" = some [0x18, 0x7F] ∧ assemble "JR $-126" = some [0x18, 0x80] ∧
      assemble "RST 0x38" = some [0xFF] := by decide
theorem test_assemble_undocumented :
    assemble "LD IXH,B" = some [0xDD, 0x60] ∧ assemble "SRL (IY-0x01),D" = some [0xFD, 0xCB, 0xFF, 0x3A] ∧
      assemble "OUT (C),0" = some [0xED, 0x71] ∧ assemble "DB 0xED,0x77" = some [0xED, 0x77] := by decide
theorem test_assemble_other_spellings :
    assemble "SUB A,B" = some [0x90] ∧ assemble "JP HL" = some [0xE9] ∧ assemble "IN (C)" = some [0xED, 0x70] ∧
      assemble "SLI B" = some [0xCB, 0x30] ∧ assemble "LD HX,B" = some [0xDD, 0x60] := by decide
theorem test_assemble_refuses_what_is_no_instruction :
    assemble "LD H,IXL" = none ∧ assemble "LD A,0x1234" = none ∧ assemble "JR PE,$" = none ∧ assemble "SUB 0x5" = none := by
  decide

/-! ### One step of an instruction: vectors of spec/95_test_vectors.md section 2 -/

/-! #### decode and prefix chains (R153 to R155) -/

theorem test_dd_ld_b_a_v30_3 :
    (runs [0xDD, 0x47] { base with a := 0x05 }).map (fun t => (t.bc, t.r, t.pc, t.clock)) =
      some (0x0500, 0x02, 0x8002, 8) := by decide
theorem test_fd_rlc_ix_0x01_v30_5 :
    (runs [0xFD, 0xDD, 0xCB, 0x01, 0x06]
      (({ base with ix := 0x9000 } : State).put 0x9001 [0x80])).map
      (fun t => (t.f, t.r, t.pc, t.memRead 0x9001, t.clock)) =
      some (0x01, 0x03, 0x8005, 0x01, 27) := by decide
theorem test_db_0xed_0xdd_v30_6 :
    (runs [0xED, 0xDD] base).map (fun t => (t.r, t.pc, t.clock)) =
      some (0x02, 0x8002, 8) := by decide
theorem test_dd_ex_de_hl_v30_12 :
    (runs [0xDD, 0xEB]
      { base with d := 0x11, e := 0x11, h := 0x22, l := 0x22, ix := 0x3333 }).map
      (fun t => (t.de, t.hl, t.r, t.pc, t.clock)) =
      some (0x2222, 0x1111, 0x02, 0x8002, 8) := by decide

/-! #### 8-bit loads (R200 to R219) -/

theorem test_ld_a_0x80_v40_2 :
    (runs [0x3E, 0x80] base).map (fun t => (t.a, t.r, t.pc, t.clock)) =
      some (0x80, 0x01, 0x8002, 7) := by decide
theorem test_ld_hl_0xaa_v40_4 :
    (runs [0x36, 0xAA] { base with h := 0xFF, l := 0xFF }).map (fun t => (t.r, t.pc, t.memRead 0xFFFF, t.clock)) =
      some (0x01, 0x8002, 0xAA, 10) := by decide
theorem test_ld_b_ix_0x80_v40_5 :
    (runs [0xDD, 0x46, 0x80]
      (({ base with ix := 0x0010 } : State).put 0xFF90 [0x77])).map
      (fun t => (t.bc, t.r, t.pc, t.clock)) =
      some (0x7700, 0x02, 0x8003, 19) := by decide
theorem test_ld_iy_0x7f_a_v40_6 :
    (runs [0xFD, 0x77, 0x7F] { base with iy := 0x9000, a := 0x12 }).map (fun t => (t.r, t.pc, t.memRead 0x907F, t.clock)) =
      some (0x02, 0x8003, 0x12, 19) := by decide
theorem test_ld_ix_0x05_0x99_v40_7 :
    (runs [0xDD, 0x36, 0x05, 0x99] { base with ix := 0x9000 }).map (fun t => (t.r, t.pc, t.memRead 0x9005, t.clock)) =
      some (0x02, 0x8004, 0x99, 19) := by decide
theorem test_ld_a_0x1234_v40_9 :
    (runs [0x3A, 0x34, 0x12] (base.put 0x1234 [0x56])).map (fun t => (t.a, t.r, t.pc, t.clock)) =
      some (0x56, 0x01, 0x8003, 13) := by decide
theorem test_ld_0xa000_a_v40_10 :
    (runs [0x32, 0x00, 0xA0] { base with a := 0x33 }).map (fun t => (t.r, t.pc, t.memRead 0xA000, t.clock)) =
      some (0x01, 0x8003, 0x33, 13) := by decide
theorem test_ld_a_i_v40_11 :
    (runs [0xED, 0x57] { base with i := 0x80, iff2 := true, f := 0x01 }).map (fun t => (t.a, t.f, t.r, t.pc, t.clock)) =
      some (0x80, 0x85, 0x02, 0x8002, 9) := by decide
theorem test_ld_a_r_v40_13 :
    (runs [0xED, 0x5F] { base with r := 0x7F }).map (fun t => (t.a, t.r, t.pc, t.clock)) =
      some (0x01, 0x01, 0x8002, 9) := by decide
theorem test_ld_r_a_v40_15 :
    (runs [0xED, 0x4F] { base with a := 0xFF }).map (fun t => (t.r, t.pc, t.clock)) =
      some (0xFF, 0x8002, 9) := by decide
theorem test_ld_ixh_b_v40_16 :
    (runs [0xDD, 0x60] { base with b := 0x11, ix := 0x2233 }).map (fun t => (t.ix, t.r, t.pc, t.clock)) =
      some (0x1133, 0x02, 0x8002, 8) := by decide
theorem test_ld_iyl_0x44_v40_18 :
    (runs [0xFD, 0x2E, 0x44] { base with iy := 0xAABB }).map (fun t => (t.iy, t.r, t.pc, t.clock)) =
      some (0xAA44, 0x02, 0x8003, 11) := by decide

/-! #### 16-bit loads, stack, exchanges (R240 to R264) -/

theorem test_ld_bc_0x1234_v41_1 :
    (runs [0x01, 0x34, 0x12] base).map (fun t => (t.bc, t.r, t.pc, t.clock)) =
      some (0x1234, 0x01, 0x8003, 10) := by decide
theorem test_ld_hl_0xffff_v41_4 :
    (runs [0x2A, 0xFF, 0xFF] (base.put 0xFFFF [0x11, 0x22])).map (fun t => (t.hl, t.r, t.pc, t.clock)) =
      some (0x2211, 0x01, 0x8003, 16) := by decide
theorem test_ld_bc_0x9000_v41_5 :
    (runs [0xED, 0x4B, 0x00, 0x90] (base.put 0x9000 [0x78, 0x56])).map (fun t => (t.bc, t.r, t.pc, t.clock)) =
      some (0x5678, 0x02, 0x8004, 20) := by decide
theorem test_ld_0x9000_hl_v41_7 :
    (runs [0x22, 0x00, 0x90]
      { base with h := 0xBE, l := 0xEF }).map
      (fun t => (t.r, t.pc, t.memRead 0x9000, t.memRead 0x9001, t.clock)) =
      some (0x01, 0x8003, 0xEF, 0xBE, 16) := by decide
theorem test_ld_0x9000_sp_v41_8 :
    (runs [0xED, 0x73, 0x00, 0x90]
      { base with sp := 0x1234 }).map
      (fun t => (t.r, t.pc, t.memRead 0x9000, t.memRead 0x9001, t.clock)) =
      some (0x02, 0x8004, 0x34, 0x12, 20) := by decide
theorem test_ld_0x9000_iy_v41_9 :
    (runs [0xFD, 0x22, 0x00, 0x90]
      { base with iy := 0x5C3A }).map
      (fun t => (t.r, t.pc, t.memRead 0x9000, t.memRead 0x9001, t.clock)) =
      some (0x02, 0x8004, 0x3A, 0x5C, 20) := by decide
theorem test_push_af_v41_11 :
    (runs [0xF5]
      { base with a := 0x12, f := 0xD7 }).map
      (fun t => (t.r, t.sp, t.pc, t.memRead 0xFFFC, t.memRead 0xFFFD, t.clock)) =
      some (0x01, 0xFFFC, 0x8001, 0xD7, 0x12, 11) := by decide
theorem test_pop_af_v41_12 :
    (runs [0xF1]
      (({ base with sp := 0xFFFF } : State).put 0xFFFF [0xFF, 0x80])).map
      (fun t => (t.a, t.f, t.r, t.sp, t.pc, t.clock)) =
      some (0x80, 0xFF, 0x01, 0x0001, 0x8001, 10) := by decide
theorem test_push_bc_v41_13 :
    (runs [0xC5]
      { base with sp := 0x0001, b := 0xA1, c := 0xB2 }).map
      (fun t => (t.r, t.sp, t.pc, t.memRead 0x0000, t.memRead 0xFFFF, t.clock)) =
      some (0x01, 0xFFFF, 0x8001, 0xA1, 0xB2, 11) := by decide
theorem test_ex_af_af_v41_15 :
    (runs [0x08]
      { base with a := 0x12, f := 0x34, a' := 0x56, f' := 0x78 }).map
      (fun t => (t.a, t.f, t.a', t.f', t.pc, t.clock)) =
      some (0x56, 0x78, 0x12, 0x34, 0x8001, 4) := by decide
theorem test_exx_v41_16 :
    (runs [0xD9]
      { base with b := 0x01, c := 0x02, d := 0x03, e := 0x04, h := 0x05, l := 0x06, b' := 0x11, c' := 0x12, d' := 0x13, e' := 0x14, h' := 0x15, l' := 0x16 }).map
      (fun t => (t.bc, t.de, t.hl, t.r, t.pc, t.clock)) =
      some (0x1112, 0x1314, 0x1516, 0x01, 0x8001, 4) := by decide
theorem test_ex_de_hl_v41_17 :
    (runs [0xEB] { base with d := 0x11, e := 0x11, h := 0x22, l := 0x22 }).map (fun t => (t.de, t.hl, t.r, t.pc, t.clock)) =
      some (0x2222, 0x1111, 0x01, 0x8001, 4) := by decide
theorem test_ex_sp_hl_v41_18 :
    (runs [0xE3]
      (({ base with sp := 0x9000, h := 0xAB, l := 0xCD } : State).put 0x9000 [0x34, 0x12])).map
      (fun t => (t.hl, t.r, t.pc, t.memRead 0x9000, t.memRead 0x9001, t.clock)) =
      some (0x1234, 0x01, 0x8001, 0xCD, 0xAB, 19) := by decide
theorem test_ex_sp_ix_v41_19 :
    (runs [0xDD, 0xE3]
      (({ base with sp := 0x9000, ix := 0xABCD } : State).put 0x9000 [0x34, 0x12])).map
      (fun t => (t.ix, t.r, t.pc, t.memRead 0x9000, t.memRead 0x9001, t.clock)) =
      some (0x1234, 0x02, 0x8002, 0xCD, 0xAB, 23) := by decide

/-! #### block transfer and search (R280 to R288) -/

theorem test_ldi_v42_1 :
    (runs [0xED, 0xA0]
      (({ base with h := 0x90, l := 0x00, d := 0xA0, e := 0x00, b := 0x00, c := 0x02 } : State).put 0x9000 [0x5A])).map
      (fun t => (t.bc, t.de, t.hl, t.f, t.memRead 0xA000, t.clock)) =
      some (0x0001, 0xA001, 0x9001, 0x2C, 0x5A, 16) := by decide
theorem test_ldi_v42_2 :
    (runs [0xED, 0xA0]
      (({ base with h := 0x90, l := 0x00, d := 0xA0, e := 0x00, b := 0x00, c := 0x01, f := 0xFF } : State).put 0x9000 [0x5A])).map
      (fun t => (t.bc, t.de, t.hl, t.f, t.memRead 0xA000, t.clock)) =
      some (0x0000, 0xA001, 0x9001, 0xE9, 0x5A, 16) := by decide
theorem test_ldir_v42_3 :
    (runs [0xED, 0xB0]
      (({ base with h := 0x90, l := 0x00, d := 0xA0, e := 0x00, b := 0x00, c := 0x02 } : State).put 0x9000 [0x01, 0x02])).map
      (fun t => (t.bc, t.de, t.hl, t.pc, t.memRead 0xA000, t.clock)) =
      some (0x0001, 0xA001, 0x9001, 0x8000, 0x01, 21) := by decide
theorem test_ldd_v42_5 :
    (runs [0xED, 0xA8]
      (({ base with h := 0x90, l := 0x00, d := 0xA0, e := 0x00, b := 0x00, c := 0x01 } : State).put 0x9000 [0x77])).map
      (fun t => (t.bc, t.de, t.hl, t.f, t.memRead 0xA000, t.clock)) =
      some (0x0000, 0x9FFF, 0x8FFF, 0x20, 0x77, 16) := by decide
theorem test_lddr_v42_6 :
    (runs [0xED, 0xB8]
      (({ base with h := 0x90, l := 0x01, d := 0xA0, e := 0x01, b := 0x00, c := 0x00 } : State).put 0x9001 [0x66])).map
      (fun t => (t.bc, t.de, t.hl, t.pc, t.memRead 0xA001, t.clock)) =
      some (0xFFFF, 0xA000, 0x9000, 0x8000, 0x66, 21) := by decide
theorem test_cpi_v42_7 :
    (runs [0xED, 0xA1]
      (({ base with a := 0x10, h := 0x90, l := 0x00, b := 0x00, c := 0x02 } : State).put 0x9000 [0x10])).map
      (fun t => (t.bc, t.hl, t.f, t.r, t.pc, t.clock)) =
      some (0x0001, 0x9001, 0x46, 0x02, 0x8002, 16) := by decide

/-! #### 8-bit arithmetic and logic (R300 to R320) -/

theorem test_add_a_hl_v43_2 :
    (runs [0x86]
      (({ base with a := 0x0F, h := 0x90, l := 0x00 } : State).put 0x9000 [0x01])).map
      (fun t => (t.a, t.f, t.r, t.pc, t.clock)) =
      some (0x10, 0x10, 0x01, 0x8001, 7) := by decide
theorem test_add_a_ix_0x02_v43_3 :
    (runs [0xDD, 0x86, 0xFE]
      (({ base with a := 0xF0, ix := 0x9002 } : State).put 0x9000 [0x10])).map
      (fun t => (t.a, t.f, t.r, t.pc, t.clock)) =
      some (0x00, 0x41, 0x02, 0x8003, 19) := by decide
theorem test_adc_a_0xff_v43_4 :
    (runs [0xCE, 0xFF] { base with a := 0x00, f := 0x01 }).map (fun t => (t.f, t.r, t.pc, t.clock)) =
      some (0x51, 0x01, 0x8002, 7) := by decide
theorem test_sub_b_v43_5 :
    (runs [0x90] { base with a := 0x80, b := 0x01 }).map (fun t => (t.a, t.f, t.r, t.pc, t.clock)) =
      some (0x7F, 0x3E, 0x01, 0x8001, 4) := by decide
theorem test_sbc_a_a_v43_6 :
    (runs [0x9F] { base with a := 0x00, f := 0x01 }).map (fun t => (t.a, t.f, t.r, t.pc, t.clock)) =
      some (0xFF, 0xBB, 0x01, 0x8001, 4) := by decide
theorem test_xor_a_v43_8 :
    (runs [0xAF] { base with a := 0x5A, f := 0xFF }).map (fun t => (t.a, t.f, t.r, t.pc, t.clock)) =
      some (0x00, 0x44, 0x01, 0x8001, 4) := by decide
theorem test_cp_a_v43_10 :
    (runs [0xBF] { base with a := 0x80 }).map (fun t => (t.f, t.r, t.pc, t.clock)) =
      some (0x42, 0x01, 0x8001, 4) := by decide
theorem test_add_a_ixh_v43_12 :
    (runs [0xDD, 0x84] { base with a := 0x01, ix := 0x7F00 }).map (fun t => (t.a, t.f, t.r, t.pc, t.clock)) =
      some (0x80, 0x94, 0x02, 0x8002, 8) := by decide
theorem test_inc_a_v43_13 :
    (runs [0x3C] { base with a := 0xFF, f := 0x01 }).map (fun t => (t.a, t.f, t.r, t.pc, t.clock)) =
      some (0x00, 0x51, 0x01, 0x8001, 4) := by decide
theorem test_dec_b_v43_14 :
    (runs [0x05] { base with b := 0x80 }).map (fun t => (t.bc, t.f, t.r, t.pc, t.clock)) =
      some (0x7F00, 0x3E, 0x01, 0x8001, 4) := by decide
theorem test_dec_hl_v43_16 :
    (runs [0x35]
      (({ base with h := 0x90, l := 0x00 } : State).put 0x9000 [0x00])).map
      (fun t => (t.f, t.r, t.pc, t.memRead 0x9000, t.clock)) =
      some (0xBA, 0x01, 0x8001, 0xFF, 11) := by decide
theorem test_inc_ix_0x7f_v43_17 :
    (runs [0xDD, 0x34, 0x7F]
      (({ base with ix := 0x9000 } : State).put 0x907F [0xFF])).map
      (fun t => (t.f, t.r, t.pc, t.memRead 0x907F, t.clock)) =
      some (0x50, 0x02, 0x8003, 0x00, 23) := by decide
theorem test_dec_iyh_v43_18 :
    (runs [0xFD, 0x25] { base with iy := 0x0034 }).map (fun t => (t.iy, t.f, t.r, t.pc, t.clock)) =
      some (0xFF34, 0xBA, 0x02, 0x8002, 8) := by decide

/-! #### CPU control (R340 to R356) -/

theorem test_daa_v44_1 :
    (runs [0x27] { base with a := 0x0A, f := 0x00 }).map (fun t => (t.a, t.f, t.r, t.pc, t.clock)) =
      some (0x10, 0x10, 0x01, 0x8001, 4) := by decide
theorem test_daa_v44_2 :
    (runs [0x27] { base with a := 0x99, f := 0x00 }).map (fun t => (t.f, t.r, t.pc, t.clock)) =
      some (0x8C, 0x01, 0x8001, 4) := by decide
theorem test_daa_v44_3 :
    (runs [0x27] { base with a := 0x00, f := 0x01 }).map (fun t => (t.a, t.f, t.r, t.pc, t.clock)) =
      some (0x60, 0x25, 0x01, 0x8001, 4) := by decide
theorem test_daa_v44_4 :
    (runs [0x27] { base with a := 0x0F, f := 0x02 }).map (fun t => (t.a, t.f, t.r, t.pc, t.clock)) =
      some (0x09, 0x0E, 0x01, 0x8001, 4) := by decide
theorem test_daa_v44_5 :
    (runs [0x27] { base with a := 0xFA, f := 0x02 }).map (fun t => (t.a, t.f, t.r, t.pc, t.clock)) =
      some (0x94, 0x83, 0x01, 0x8001, 4) := by decide
theorem test_cpl_v44_6 :
    (runs [0x2F] { base with a := 0x00, f := 0xC5 }).map (fun t => (t.a, t.f, t.r, t.pc, t.clock)) =
      some (0xFF, 0xFF, 0x01, 0x8001, 4) := by decide
theorem test_neg_v44_7 :
    (runs [0xED, 0x44] { base with a := 0x80 }).map (fun t => (t.f, t.r, t.pc, t.clock)) =
      some (0x87, 0x02, 0x8002, 8) := by decide
theorem test_neg_v44_9 :
    (runs [0xED, 0x54] { base with a := 0x01 }).map (fun t => (t.a, t.f, t.r, t.pc, t.clock)) =
      some (0xFF, 0xBB, 0x02, 0x8002, 8) := by decide
theorem test_ccf_v44_10 :
    (runs [0x3F] { base with f := 0x01 }).map (fun t => (t.r, t.pc, t.clock)) =
      some (0x01, 0x8001, 4) := by decide
theorem test_scf_v44_11 :
    (runs [0x37] { base with f := 0x12 }).map (fun t => (t.r, t.pc, t.clock)) =
      some (0x01, 0x8001, 4) := by decide
theorem test_nop_v44_12 :
    (runs [0x00] base).map (fun t => (t.r, t.pc, t.clock)) =
      some (0x01, 0x8001, 4) := by decide
theorem test_fd_dd_fd_nop_v44_15 :
    (runs [0xFD, 0xDD, 0xFD, 0x00] base).map (fun t => (t.r, t.pc, t.clock)) =
      some (0x04, 0x8004, 16) := by decide
theorem test_di_v44_18 :
    (runs [0xF3] { base with iff1 := true, iff2 := true }).map (fun t => (t.r, t.pc, t.iff1, t.iff2, t.clock)) =
      some (0x01, 0x8001, false, false, 4) := by decide
theorem test_ei_v44_19 :
    (runs [0xFB] base).map (fun t => (t.r, t.pc, t.iff1, t.iff2, t.clock)) =
      some (0x01, 0x8001, true, true, 4) := by decide
theorem test_im_2_v44_20 :
    (runs [0xED, 0x5E] base).map (fun t => (t.r, t.pc, t.im, t.clock)) =
      some (0x02, 0x8002, .im2, 8) := by decide
theorem test_im_1_v44_23 :
    (runs [0xED, 0x76] base).map (fun t => (t.r, t.pc, t.im, t.clock)) =
      some (0x02, 0x8002, .im1, 8) := by decide

/-! #### 16-bit arithmetic (R370 to R378) -/

theorem test_add_hl_hl_v45_1 :
    (runs [0x29] { base with h := 0x80, l := 0x00 }).map (fun t => (t.hl, t.f, t.r, t.pc, t.clock)) =
      some (0x0000, 0x01, 0x01, 0x8001, 11) := by decide
theorem test_add_hl_sp_v45_2 :
    (runs [0x39]
      { base with h := 0x00, l := 0x01, sp := 0xFFFF, f := 0xC4 }).map
      (fun t => (t.hl, t.f, t.r, t.pc, t.clock)) =
      some (0x0000, 0xD5, 0x01, 0x8001, 11) := by decide
theorem test_adc_hl_de_v45_3 :
    (runs [0xED, 0x5A]
      { base with h := 0xFF, l := 0xFF, d := 0x00, e := 0x00, f := 0x01 }).map
      (fun t => (t.hl, t.f, t.r, t.pc, t.clock)) =
      some (0x0000, 0x51, 0x02, 0x8002, 15) := by decide
theorem test_sbc_hl_bc_v45_4 :
    (runs [0xED, 0x42]
      { base with h := 0x80, l := 0x00, b := 0x00, c := 0x01 }).map
      (fun t => (t.hl, t.f, t.r, t.pc, t.clock)) =
      some (0x7FFF, 0x3E, 0x02, 0x8002, 15) := by decide
theorem test_sbc_hl_sp_v45_5 :
    (runs [0xED, 0x72]
      { base with h := 0x10, l := 0x00, sp := 0x1000, f := 0x01 }).map
      (fun t => (t.hl, t.f, t.r, t.pc, t.clock)) =
      some (0xFFFF, 0xBB, 0x02, 0x8002, 15) := by decide
theorem test_add_ix_ix_v45_6 :
    (runs [0xDD, 0x29] { base with ix := 0x0FFF }).map (fun t => (t.ix, t.f, t.r, t.pc, t.clock)) =
      some (0x1FFE, 0x18, 0x02, 0x8002, 15) := by decide
theorem test_add_iy_de_v45_7 :
    (runs [0xFD, 0x19] { base with iy := 0xFFFF, d := 0x00, e := 0x01 }).map (fun t => (t.iy, t.f, t.r, t.pc, t.clock)) =
      some (0x0000, 0x11, 0x02, 0x8002, 15) := by decide
theorem test_inc_sp_v45_8 :
    (runs [0x33] { base with sp := 0xFFFF }).map (fun t => (t.r, t.sp, t.pc, t.clock)) =
      some (0x01, 0x0000, 0x8001, 6) := by decide
theorem test_dec_bc_v45_9 :
    (runs [0x0B] { base with b := 0x00, c := 0x00, f := 0xFF }).map (fun t => (t.bc, t.r, t.pc, t.clock)) =
      some (0xFFFF, 0x01, 0x8001, 6) := by decide
theorem test_dec_iy_v45_11 :
    (runs [0xFD, 0x2B] { base with iy := 0x0000 }).map (fun t => (t.iy, t.r, t.pc, t.clock)) =
      some (0xFFFF, 0x02, 0x8002, 10) := by decide

/-! #### rotates and shifts (R390 to R405) -/

theorem test_rlca_v46_1 :
    (runs [0x07] { base with a := 0x81, f := 0xC4 }).map (fun t => (t.a, t.f, t.r, t.pc, t.clock)) =
      some (0x03, 0xC5, 0x01, 0x8001, 4) := by decide
theorem test_rla_v46_3 :
    (runs [0x17] { base with a := 0x80, f := 0x00 }).map (fun t => (t.a, t.f, t.r, t.pc, t.clock)) =
      some (0x00, 0x01, 0x01, 0x8001, 4) := by decide
theorem test_rra_v46_4 :
    (runs [0x1F] { base with a := 0x01, f := 0x01 }).map (fun t => (t.a, t.r, t.pc, t.clock)) =
      some (0x80, 0x01, 0x8001, 4) := by decide
theorem test_rlc_hl_v46_5 :
    (runs [0xCB, 0x06]
      (({ base with h := 0x90, l := 0x00 } : State).put 0x9000 [0x80])).map
      (fun t => (t.f, t.r, t.pc, t.memRead 0x9000, t.clock)) =
      some (0x01, 0x02, 0x8002, 0x01, 15) := by decide
theorem test_rr_c_v46_6 :
    (runs [0xCB, 0x19] { base with c := 0x01, f := 0x00 }).map (fun t => (t.bc, t.f, t.r, t.pc, t.clock)) =
      some (0x0000, 0x45, 0x02, 0x8002, 8) := by decide
theorem test_sla_a_v46_7 :
    (runs [0xCB, 0x27] { base with a := 0x80 }).map (fun t => (t.a, t.f, t.r, t.pc, t.clock)) =
      some (0x00, 0x45, 0x02, 0x8002, 8) := by decide
theorem test_sra_b_v46_8 :
    (runs [0xCB, 0x28] { base with b := 0x80 }).map (fun t => (t.bc, t.f, t.r, t.pc, t.clock)) =
      some (0xC000, 0x84, 0x02, 0x8002, 8) := by decide
theorem test_sll_b_v46_9 :
    (runs [0xCB, 0x30] { base with b := 0x00 }).map (fun t => (t.bc, t.r, t.pc, t.clock)) =
      some (0x0100, 0x02, 0x8002, 8) := by decide
theorem test_srl_b_v46_10 :
    (runs [0xCB, 0x38] { base with b := 0x01 }).map (fun t => (t.bc, t.f, t.r, t.pc, t.clock)) =
      some (0x0000, 0x45, 0x02, 0x8002, 8) := by decide
theorem test_rld_v46_11 :
    (runs [0xED, 0x6F]
      (({ base with a := 0x00, h := 0x90, l := 0x00, f := 0x01 } : State).put 0x9000 [0x00])).map
      (fun t => (t.f, t.r, t.pc, t.clock)) =
      some (0x45, 0x02, 0x8002, 18) := by decide
theorem test_rrd_v46_12 :
    (runs [0xED, 0x67]
      (({ base with a := 0x12, h := 0x90, l := 0x00 } : State).put 0x9000 [0x34])).map
      (fun t => (t.a, t.f, t.r, t.pc, t.memRead 0x9000, t.clock)) =
      some (0x14, 0x04, 0x02, 0x8002, 0x23, 18) := by decide
theorem test_rlc_ix_0x01_v46_13 :
    (runs [0xDD, 0xCB, 0x01, 0x06]
      (({ base with ix := 0x9000 } : State).put 0x9001 [0x01])).map
      (fun t => (t.r, t.pc, t.memRead 0x9001, t.clock)) =
      some (0x02, 0x8004, 0x02, 23) := by decide
theorem test_srl_iy_0x01_d_v46_14 :
    (runs [0xFD, 0xCB, 0xFF, 0x3A]
      (({ base with iy := 0x9001 } : State).put 0x9000 [0x03])).map
      (fun t => (t.de, t.f, t.r, t.pc, t.memRead 0x9000, t.clock)) =
      some (0x0100, 0x01, 0x02, 0x8004, 0x01, 23) := by decide

/-! #### bit operations (R420 to R426) -/

theorem test_bit_0_a_v47_1 :
    (runs [0xCB, 0x47] { base with a := 0x01, f := 0x01 }).map (fun t => (t.f, t.r, t.pc, t.clock)) =
      some (0x11, 0x02, 0x8002, 8) := by decide
theorem test_bit_7_hl_v47_3 :
    (runs [0xCB, 0x7E]
      (({ base with h := 0x90, l := 0x00 } : State).put 0x9000 [0x80])).map
      (fun t => (t.r, t.pc, t.clock)) =
      some (0x02, 0x8002, 12) := by decide
theorem test_bit_4_ix_0x10_v47_4 :
    (runs [0xDD, 0xCB, 0x10, 0x66]
      (({ base with ix := 0x9000 } : State).put 0x9010 [0x10])).map
      (fun t => (t.f, t.r, t.pc, t.clock)) =
      some (0x10, 0x02, 0x8004, 20) := by decide
theorem test_bit_0_iy_0x00_v47_5 :
    (runs [0xFD, 0xCB, 0x00, 0x40]
      (({ base with iy := 0x9000 } : State).put 0x9000 [0x00])).map
      (fun t => (t.f, t.r, t.pc, t.clock)) =
      some (0x54, 0x02, 0x8004, 20) := by decide
theorem test_set_7_hl_v47_6 :
    (runs [0xCB, 0xFE] { base with h := 0x90, l := 0x00 }).map (fun t => (t.r, t.pc, t.memRead 0x9000, t.clock)) =
      some (0x02, 0x8002, 0x80, 15) := by decide
theorem test_res_0_a_v47_7 :
    (runs [0xCB, 0x87] { base with a := 0xFF, f := 0xFF }).map (fun t => (t.a, t.r, t.pc, t.clock)) =
      some (0xFE, 0x02, 0x8002, 8) := by decide
theorem test_set_0_ix_0x02_b_v47_8 :
    (runs [0xDD, 0xCB, 0x02, 0xC0]
      (({ base with ix := 0x9000 } : State).put 0x9002 [0x00])).map
      (fun t => (t.bc, t.r, t.pc, t.memRead 0x9002, t.clock)) =
      some (0x0100, 0x02, 0x8004, 0x01, 23) := by decide
theorem test_res_7_iy_0x03_v47_9 :
    (runs [0xFD, 0xCB, 0x03, 0xBE]
      (({ base with iy := 0x9000 } : State).put 0x9003 [0xFF])).map
      (fun t => (t.r, t.pc, t.memRead 0x9003, t.clock)) =
      some (0x02, 0x8004, 0x7F, 23) := by decide

/-! #### jumps, calls, returns (R440 to R459) -/

theorem test_jp_0x1234_v48_1 :
    (runs [0xC3, 0x34, 0x12] base).map (fun t => (t.r, t.pc, t.clock)) =
      some (0x01, 0x1234, 10) := by decide
theorem test_jp_nz_0x9000_v48_2 :
    (runs [0xC2, 0x00, 0x90] { base with f := 0x40 }).map (fun t => (t.r, t.pc, t.clock)) =
      some (0x01, 0x8003, 10) := by decide
theorem test_jp_m_0x9000_v48_3 :
    (runs [0xFA, 0x00, 0x90] { base with f := 0x80 }).map (fun t => (t.r, t.pc, t.clock)) =
      some (0x01, 0x9000, 10) := by decide
theorem test_jr_self_v48_5 :
    (runs [0x18, 0xFE] base).map (fun t => (t.r, t.pc, t.clock)) =
      some (0x01, 0x8000, 12) := by decide
theorem test_jr_self_126_v48_7 :
    (runs [0x18, 0x80] base).map (fun t => (t.r, t.pc, t.clock)) =
      some (0x01, 0x7F82, 12) := by decide
theorem test_jr_nz_self_7_v48_8 :
    (runs [0x20, 0x05] { base with f := 0x40 }).map (fun t => (t.r, t.pc, t.clock)) =
      some (0x01, 0x8002, 7) := by decide
theorem test_jr_nc_self_7_v48_9 :
    (runs [0x30, 0x05] { base with f := 0x00 }).map (fun t => (t.r, t.pc, t.clock)) =
      some (0x01, 0x8007, 12) := by decide
theorem test_jp_hl_v48_10 :
    (runs [0xE9] { base with h := 0x12, l := 0x34 }).map (fun t => (t.r, t.pc, t.clock)) =
      some (0x01, 0x1234, 4) := by decide
theorem test_jp_iy_v48_11 :
    (runs [0xFD, 0xE9] { base with iy := 0x4321 }).map (fun t => (t.r, t.pc, t.clock)) =
      some (0x02, 0x4321, 8) := by decide
theorem test_djnz_self_v48_12 :
    (runs [0x10, 0xFE] { base with b := 0x01 }).map (fun t => (t.bc, t.r, t.pc, t.clock)) =
      some (0x0000, 0x01, 0x8002, 8) := by decide
theorem test_djnz_self_v48_13 :
    (runs [0x10, 0xFE] { base with b := 0x00 }).map (fun t => (t.bc, t.r, t.pc, t.clock)) =
      some (0xFF00, 0x01, 0x8000, 13) := by decide
theorem test_call_0x9000_v48_14 :
    (runs [0xCD, 0x00, 0x90] base).map (fun t => (t.r, t.sp, t.pc, t.memRead 0xFFFC, t.memRead 0xFFFD, t.clock)) =
      some (0x01, 0xFFFC, 0x9000, 0x03, 0x80, 17) := by decide
theorem test_call_c_0x9000_v48_16 :
    (runs [0xDC, 0x00, 0x90]
      { base with f := 0x01, sp := 0x0000 }).map
      (fun t => (t.r, t.sp, t.pc, t.memRead 0xFFFE, t.memRead 0xFFFF, t.clock)) =
      some (0x01, 0xFFFE, 0x9000, 0x03, 0x80, 17) := by decide
theorem test_ret_v48_17 :
    (runs [0xC9] (({ base with sp := 0x9000 } : State).put 0x9000 [0x21, 0x43])).map (fun t => (t.r, t.sp, t.pc, t.clock)) =
      some (0x01, 0x9002, 0x4321, 10) := by decide
theorem test_ret_p_v48_19 :
    (runs [0xF0]
      (({ base with f := 0x00, sp := 0x9000 } : State).put 0x9000 [0x21, 0x43])).map
      (fun t => (t.r, t.sp, t.pc, t.clock)) =
      some (0x01, 0x9002, 0x4321, 11) := by decide
theorem test_retn_v48_20 :
    (runs [0xED, 0x45]
      (({ base with sp := 0x9000, iff1 := false, iff2 := true } : State).put 0x9000 [0x21, 0x43])).map
      (fun t => (t.r, t.sp, t.pc, t.iff1, t.clock)) =
      some (0x02, 0x9002, 0x4321, true, 14) := by decide
theorem test_reti_v48_21 :
    (runs [0xED, 0x4D]
      (({ base with sp := 0x9000, iff1 := false, iff2 := true } : State).put 0x9000 [0x21, 0x43])).map
      (fun t => (t.r, t.sp, t.pc, t.iff1, t.clock)) =
      some (0x02, 0x9002, 0x4321, true, 14) := by decide
theorem test_retn_v48_22 :
    (runs [0xED, 0x55]
      (({ base with sp := 0x9000, iff1 := false, iff2 := true } : State).put 0x9000 [0x21, 0x43])).map
      (fun t => (t.r, t.sp, t.pc, t.iff1, t.clock)) =
      some (0x02, 0x9002, 0x4321, true, 14) := by decide
theorem test_rst_0x38_v48_23 :
    (runs [0xFF] base).map (fun t => (t.r, t.sp, t.pc, t.memRead 0xFFFC, t.memRead 0xFFFD, t.clock)) =
      some (0x01, 0xFFFC, 0x0038, 0x01, 0x80, 11) := by decide

/-! #### ports (R470 to R486) -/

theorem test_in_a_0xfe_v49_1 :
    (runs [0xDB, 0xFE] { base with a := 0x7F, env := portAnswers 0xBF }).map (fun t => (t.a, t.r, t.pc, t.ioLog, t.clock)) =
      some (0xBF, 0x01, 0x8002, [⟨.input, 0x7FFE, 0xBF, 0⟩], 11) := by decide
theorem test_in_d_c_v49_2 :
    (runs [0xED, 0x50]
      { base with b := 0xFE, c := 0xFE, env := portAnswers 0x00, f := 0x01 }).map
      (fun t => (t.f, t.r, t.pc, t.ioLog, t.clock)) =
      some (0x45, 0x02, 0x8002, [⟨.input, 0xFEFE, 0x00, 0⟩], 12) := by decide
theorem test_in_f_c_v49_3 :
    (runs [0xED, 0x70]
      { base with b := 0x00, c := 0xFE, env := portAnswers 0x80 }).map
      (fun t => (t.f, t.r, t.pc, t.ioLog, t.clock)) =
      some (0x80, 0x02, 0x8002, [⟨.input, 0x00FE, 0x80, 0⟩], 12) := by decide
theorem test_out_0xfe_a_v49_4 :
    (runs [0xD3, 0xFE] { base with a := 0x07 }).map (fun t => (t.r, t.pc, t.ioLog, t.clock)) =
      some (0x01, 0x8002, [⟨.output, 0x07FE, 0x07, 0⟩], 11) := by decide
theorem test_out_c_a_v49_5 :
    (runs [0xED, 0x79] { base with b := 0x12, c := 0x34, a := 0x99 }).map (fun t => (t.r, t.pc, t.ioLog, t.clock)) =
      some (0x02, 0x8002, [⟨.output, 0x1234, 0x99, 0⟩], 12) := by decide
theorem test_out_c_0_v49_6 :
    (runs [0xED, 0x71] { base with b := 0x00, c := 0xFE }).map (fun t => (t.r, t.pc, t.ioLog, t.clock)) =
      some (0x02, 0x8002, [⟨.output, 0x00FE, 0x00, 0⟩], 12) := by decide
theorem test_ind_v49_7 :
    (runs [0xED, 0xAA]
      { base with b := 0x01, c := 0xFE, h := 0x90, l := 0x00, env := portAnswers 0x80 }).map
      (fun t => (t.hl, t.f, t.memRead 0x9000, t.ioLog, t.clock)) =
      some (0x8FFF, 0x57, 0x80, [⟨.input, 0x01FE, 0x80, 0⟩], 16) := by decide
theorem test_outd_v49_9 :
    (runs [0xED, 0xAB]
      (({ base with b := 0x02, c := 0x07, h := 0x90, l := 0x00 } : State).put 0x9000 [0xFF])).map
      (fun t => (t.bc, t.hl, t.f, t.ioLog, t.clock)) =
      some (0x0107, 0x8FFF, 0x13, [⟨.output, 0x0107, 0xFF, 0⟩], 16) := by decide

/-! ### Memory and ROM: vectors of spec/95_test_vectors.md section 3 -/

theorem test_rom_write_is_dropped_m_1 :
    (runs [0x32, 0x10, 0x00]
      (({ base with a := 0x55, cfg := Params.spectrum } : State).put 0x0010 [0xAA])).map
      (fun t => (t.r, t.pc, t.memRead 0x0010, t.clock)) =
      some (0x01, 0x8003, 0xAA, 13) := by decide
theorem test_call_with_stack_in_rom_m_2 :
    (runs [0xCD, 0x00, 0x90]
      (({ base with sp := 0x2000, cfg := Params.spectrum } : State).put 0x1FFE [0x11, 0x22])).map
      (fun t => (t.pc, t.sp, t.memRead 0x1FFE, t.memRead 0x1FFF)) =
      some (0x9000, 0x1FFE, 0x11, 0x22) := by decide
theorem test_store_word_wraps_m_3 :
    (runs [0x22, 0xFF, 0xFF] { base with h := 0xBE, l := 0xEF }).map (fun t => (t.pc, t.memRead 0xFFFF, t.memRead 0x0000)) =
      some (0x8003, 0xEF, 0xBE) := by decide
theorem test_instruction_reads_its_own_bytes_m_4 :
    (runs [0x3A, 0x00, 0x80] base).map (fun t => t.a) = some 0x3A := by decide

/-! ### Interrupts, HALT, reset: sequences of spec/95_test_vectors.md sections 1.8, 4, 5 and 7 -/

/-- INT asserted with the data. -/
def int (data : List Byte) : IntSample := ⟨true, false, data⟩

/-- An NMI edge. -/
def nmi : IntSample := ⟨false, true, []⟩

/-- The fixture with interrupts on, in a mode. -/
def enabled (m : IMode) : State := { base with iff1 := true, iff2 := true, im := m }

/-- What an acknowledge shows: PC, SP, the pushed Word, IFF1, IFF2, R, the clock, `halted`. -/
structure Shown where
  pc : Word
  sp : Word
  top : Word
  iff1 : Bool
  iff2 : Bool
  r : Byte
  clock : Nat
  halted : Bool
  deriving DecidableEq, Repr

/-- What the state shows of an acknowledge. -/
def shown (t : State) : Shown := ⟨t.pc, t.sp, t.memRead16 t.sp, t.iff1, t.iff2, t.r, t.clock, t.halted⟩

theorem test_acknowledge_mode_1_i1 :
    (after ((enabled .im1).samples [int [0xFF]])).map shown =
      some ⟨0x0038, 0xFFFC, 0x8000, false, false, 0x01, 13, false⟩ := by decide
theorem test_acknowledge_mode_2_i2 :
    (after ((({ enabled .im2 with i := 0x90 } : State).put 0x90FE [0x34, 0x12]).samples [int [0xFE]])).map shown =
      some ⟨0x1234, 0xFFFC, 0x8000, false, false, 0x01, 19, false⟩ := by decide
theorem test_acknowledge_mode_2_odd_data_i3 :
    (after ((({ enabled .im2 with i := 0x90 } : State).put 0x90FF [0x34, 0x12]).samples [int [0xFF]])).map shown =
      some ⟨0x1234, 0xFFFC, 0x8000, false, false, 0x01, 19, false⟩ := by decide
theorem test_acknowledge_mode_0_rst_i4 :
    (after ((enabled .im0).samples [int [0xD7]])).map shown =
      some ⟨0x0010, 0xFFFC, 0x8000, false, false, 0x01, 13, false⟩ := by decide
theorem test_acknowledge_mode_0_other_data_i5 :
    refusalOf ((enabled .im0).samples [int [0x00]]) = some (.im0Data [0x00]) := by decide
theorem test_ei_shadow_holds_int_off_i6 :
    (after (({ enabled .im1 with eiShadow := true } : State).samples [int [0xFF]])).map (fun t => (t.pc, t.clock, t.eiShadow)) =
      some (0x8001, 4, false) := by decide
theorem test_ei_again_arms_the_shadow_i7 :
    (runs [0xFB] (({ enabled .im1 with eiShadow := true } : State).samples [int [0xFF]])).map (fun t => (t.pc, t.eiShadow)) =
      some (0x8001, true) := by decide
theorem test_int_ends_halt_i8 :
    (after (({ enabled .im1 with halted := true, pc := 0x8001, r := 0x03, clock := 12 } : State).samples [int [0xFF]])).map shown =
      some ⟨0x0038, 0xFFFC, 0x8001, false, false, 0x04, 25, false⟩ := by decide
theorem test_masked_int_leaves_halt_i9 :
    (after (({ base with halted := true, pc := 0x8001, clock := 4, r := 0x01 } : State).samples [int [0xFF]])).map
      (fun t => (t.pc, t.halted, t.r, t.clock)) = some (0x8001, true, 0x02, 8) := by decide
theorem test_nmi_i10 :
    (after ((enabled .im0).samples [nmi])).map shown =
      some ⟨0x0066, 0xFFFC, 0x8000, false, true, 0x01, 11, false⟩ := by decide
theorem test_nmi_before_int_i11 :
    (after ((enabled .im1).samples [⟨true, true, [0xFF]⟩])).map shown =
      some ⟨0x0066, 0xFFFC, 0x8000, false, true, 0x01, 11, false⟩ := by decide
theorem test_nmi_in_ei_shadow_i12 :
    (after (({ enabled .im0 with eiShadow := true, pc := 0x8001, r := 0x01, clock := 4 } : State).samples [nmi])).map shown =
      some ⟨0x0066, 0xFFFC, 0x8001, false, true, 0x02, 15, false⟩ := by decide
theorem test_nmi_in_halt_i13 :
    (after (({ base with halted := true, pc := 0x8001, r := 0x02, clock := 8 } : State).samples [nmi])).map shown =
      some ⟨0x0066, 0xFFFC, 0x8001, false, false, 0x03, 19, false⟩ := by decide
theorem test_ldir_is_interruptible_i15 :
    (runs [0xED, 0xB0] (({ enabled .im1 with c := 3, h := 0x90, d := 0xA0 } : State).samples [⟨false, false, []⟩, int [0xFF]])).map
      (fun t => (t.bc, t.pc, t.clock, t.interruptPending)) = some (2, 0x8000, 21, true) := by decide
theorem test_prefix_chain_is_one_unit_i16 :
    (runs [0xDD, 0xDD, 0x00] ((enabled .im1).samples [⟨false, false, []⟩, int [0xFF]])).map (fun t => (t.pc, t.r, t.clock)) =
      some (0x8003, 0x03, 12) := by decide
theorem test_spectrum_frame_interrupt_i17 :
    (IntEnv.sample .spectrum48 31 []).intLine = true ∧ (IntEnv.sample .spectrum48 32 []).intLine = false ∧
      (IntEnv.sample .spectrum48 69895 []).intLine = true := by decide
theorem test_halted_tick :
    (after { base with halted := true, pc := 0x8001, r := 0x01, clock := 4 }).map (fun t => (t.pc, t.halted, t.r, t.clock)) =
      some (0x8001, true, 0x02, 8) := by decide
theorem test_warm_reset_while_halted_rs2 :
    (after { enabled .im2 with
        i := 0x90, a := 0x12, halted := true, pc := 0x8001, r := 0x01, clock := 4, env := { base.env with reset := .schedule [true] },
        dbg := { base.dbg with bps := [0x4000] } }).map
      (fun t => (t.pc, t.im, t.halted, t.a, t.dbg.bps)) =
      some (0x0000, .im0, false, 0x12, [0x4000]) := by decide
theorem test_power_on_rs1 :
    (State.reset.pc, State.reset.im, State.reset.i, State.reset.r, State.reset.clock, State.reset.halted) =
      (0x0000, .im0, 0x00, 0x00, 0, false) := by decide

/-- The fixture under UNDOC = refuse. -/
def refusing : State := { base with cfg := { base.cfg with undoc := .refuse } }

theorem test_undocumented_form_is_refused_x_1 :
    refusalOf (refusing.put 0x8000 [0xCB, 0x30]) = some (.undocumented "SLL r") := by decide
theorem test_wasted_prefix_is_not_refused_x_2 :
    (runs [0xDD, 0x47] { refusing with a := 0x05 }).map (fun t => (t.b, t.clock)) = some (0x05, 8) := by decide
theorem test_hole_is_not_refused_x_3 :
    (runs [0xED, 0x77] refusing).map (fun t => (t.pc, t.clock)) = some (0x8002, 8) := by decide

/-- Power-on under UNSET_READ = fault, with the bytes at 0x0000. -/
def unsetPowerOn (bytes : List Byte) : State :=
  State.powerOn { Params.standard with unsetRead := .fault } Env.quiet (Memory.place [] 0 bytes) ResetDraw.allOnes

theorem test_unset_read_faults_x_6 : faultOf (unsetPowerOn [0x78]) = some (.invariant (.unsetRead .b)) := by decide
theorem test_written_register_is_read_x_7 :
    ((after (unsetPowerOn [0x06, 0x05, 0x78])).bind after).map (fun t => (t.a, t.pc)) = some (0x05, 0x0003) := by decide
theorem test_xor_a_reads_a_x_8 : faultOf (unsetPowerOn [0xAF]) = some (.invariant (.unsetRead .a)) := by decide

/-- CP reads its operand before A (R312): with both marked the fault names the operand, where SUB's names A (R307). -/
theorem test_cp_reads_its_operand_before_a :
    faultOf (unsetPowerOn [0xB8]) = some (.invariant (.unsetRead .b)) ∧
      faultOf (unsetPowerOn [0x90]) = some (.invariant (.unsetRead .a)) := by decide
/-- OUTI reads B, then HL, then C (R483): with C and L marked the fault names L. -/
theorem test_outi_reads_hl_before_c :
    faultOf { unsetPowerOn [0xED, 0xA3] with unset := [.c, .l] } = some (.invariant (.unsetRead .l)) := by decide

/-! ### The prefix chain that never ends: vector X-5 -/

/-- Decode of a memory of DD bytes never returns. -/
theorem decodeScan_of_all_dd (fuel : Nat) (p : Word) (ps : List Idx) : decodeScan (fun _ => 0xDD) fuel p ps = .prefixHang := by
  induction fuel generalizing p ps with
  | zero => rfl
  | succ n ih => exact ih _ _

theorem test_prefix_hang_x_5 (pc : Word) : decodeFrom (fun _ => 0xDD) pc = .prefixHang := decodeScan_of_all_dd _ _ _

/-- The cells `n` down to 0, each DD, put before `m`. -/
def allDD : Nat → Memory → Memory
  | 0, m => m
  | n + 1, m => allDD n ((n, 0xDD) :: m)

theorem lookup_allDD (n a : Nat) (m : Memory) (h : a < n ∨ Memory.lookup m a = 0xDD) : Memory.lookup (allDD n m) a = 0xDD := by
  induction n generalizing m with
  | zero => simpa [allDD] using h
  | succ n ih =>
    refine ih _ ?_
    by_cases hn : n = a
    · exact .inr (by simp [Memory.lookup, hn])
    · rcases h with h | h
      · exact .inl (by omega)
      · exact .inr (by simpa [Memory.lookup, hn] using h)

/-- The fixture with the memory and END_PCS given. -/
def endingAt (endPcs : List Word) (m : Memory) : State := { base with mem := m, cfg := { base.cfg with endPcs := endPcs } }

/-- A machine whose memory reads as DD everywhere is stuck (R503), whatever END_PCS. -/
theorem stuck_of_all_dd (m : Memory) (h : ∀ a, Memory.read m a = 0xDD) (endPcs : List Word) :
    (endingAt endPcs m).isStuck = true := by
  have hd : State.decodeAtPc (State.latchNmi (State.tick (endingAt endPcs m)) quietSample) = .prefixHang := by
    show decodeFrom (Memory.read m) 0x8000 = _
    rw [show Memory.read m = fun _ => 0xDD from funext h]
    exact decodeScan_of_all_dd _ _ _
  rw [State.isStuck_iff]
  show State.instrStep (State.latchNmi (State.tick (endingAt endPcs m)) quietSample) = _
  unfold State.instrStep
  rw [hd]

theorem test_step_is_stuck_on_prefixes_x_5 : (endingAt [] (allDD 65536 [])).isStuck = true :=
  stuck_of_all_dd _ (fun a => lookup_allDD _ a.toNat [] (.inl a.isLt)) _

/-- With PC in END_PCS, a stuck state is not final (R503, R575). -/
theorem test_stuck_state_is_not_final :
    (endingAt [0x8000] (allDD 65536 [])).isStuck = true ∧ (endingAt [0x8000] (allDD 65536 [])).isFinal = false := by
  have h := stuck_of_all_dd (allDD 65536 []) (fun a => lookup_allDD _ a.toNat [] (.inl a.isLt)) [0x8000]
  exact ⟨h, by rw [← Bool.not_eq_true, State.isFinal_iff]; exact fun hf => hf.2.2.2.2 (State.isStuck_iff.mp h)⟩

/-! ### The debug controller: spec/95_test_vectors.md sections 1.5 to 1.7 and 6 -/

/-- Program P6 at 0x0000, with the reset draws 0. -/
def p6 : State :=
  State.powerOn Params.standard Env.quiet (Memory.place [] 0 [0x06, 0x05, 0x78, 0x04, 0x76]) ⟨0, 0, 0, 0, 0, 0, 0, 0, 0, 0, 0⟩

/-- The state a run ended in. -/
def finalState : RunEnd → Option State
  | .final t => some t
  | _ => none

/-- A run ends at the first boundary in END_PCS, before the instruction there (R575). -/
theorem test_run_ends_at_the_first_final_boundary :
    (finalState ({ p6 with cfg := { p6.cfg with endPcs := [0x0003, 0x0002] } }.run 9)).map (fun t => (t.pc, t.a, t.b, t.clock)) =
      some (0x0002, 0x00, 0x05, 7) := by decide
/-- A halted boundary in END_PCS is none (R575): the HALT of P6 leaves PC at 0x0005. -/
theorem test_run_does_not_end_while_halted :
    finalState ({ p6 with cfg := { p6.cfg with endPcs := [0x0005] } }.run 9) = none := by decide

/-- No HOST_STOP. -/
def noStop : Nat → Bool := fun _ => false

/-- What a run returned, with PC, the clock, the mode and `stop_bp`. -/
def outcome : RunResult → Option (DbgReturn × Word × Nat × DbgMode × Option Word)
  | .returned ret t => some (ret, t.pc, t.clock, t.dbg.mode, t.dbg.stopBp)
  | _ => none

theorem test_breakpoint_stops_before_the_instruction_1_5 :
    outcome ((p6.setBreakpoint 0x0003).debugRun noStop 9) =
      some (.atBreakpoint 0x0003, 0x0003, 11, .stoppedAtBreakpoint, some 0x0003) := by decide
theorem test_run_on_a_breakpoint_stops_at_once_db1 :
    outcome ((p6.setBreakpoint 0x0000).debugRun noStop 9) =
      some (.atBreakpoint 0x0000, 0x0000, 0, .stoppedAtBreakpoint, some 0x0000) := by decide
theorem test_watchpoint_on_b_1_6 :
    (((p6.setWatchpoint .b .changed).2.debugStep).map (fun p => (p.1, p.2.b, p.2.dbg.mode))) =
      some (.stepped [0], 0x05, .idle) := by decide
theorem test_watchpoint_equals_db3 :
    outcome ((p6.setWatchpoint .b (.equals 0x06)).2.debugRun noStop 9) =
      some (.atWatchpoint [0], 0x0004, 15, .stoppedAtWatchpoint, none) := by decide
theorem test_set_twice_clear_once_1_7 :
    (((p6.setBreakpoint 0x0002).setBreakpoint 0x0002).clearBreakpoint 0x0002).dbg.bps = [] := by decide
theorem test_step_ignores_breakpoints_db2 :
    (((p6.setBreakpoint 0x0000).debugStep).map (fun p => (p.1, p.2.pc, p.2.clock, p.2.dbg.mode, p.2.dbg.stopBp))) =
      some (.stepped [], 0x0002, 7, .idle, none) := by decide
/-- A step that is refused evaluates the watchpoints and ends in Idle with no `stop_bp` (R563). -/
theorem test_refused_step_evaluates_watchpoints :
    (({ refusing.put 0x8000 [0xCB, 0x30] with
        dbg := ⟨.stoppedAtBreakpoint, [], [⟨0, .pc, .changed, 0⟩], 1, some 0x8000, []⟩ } : State).debugStep).map
      (fun p => (p.1, p.2.pc, p.2.dbg)) =
      some (.refused (.undocumented "SLL r"), 0x8000, ⟨.idle, [], [⟨0, .pc, .changed, 0x8000⟩], 1, none, [0]⟩) := by decide
theorem test_breakpoint_inside_an_instruction_db5 :
    outcome ((((base.put 0x8000 [0xDD, 0x21, 0x34, 0x12, 0x76]).setBreakpoint 0x8001).setBreakpoint 0x8004).debugRun noStop 9) =
      some (.atBreakpoint 0x8004, 0x8004, 14, .stoppedAtBreakpoint, some 0x8004) := by decide
theorem test_host_stop_db6 :
    outcome (base.debugRun (fun _ => true) 9) = some (.stoppedByHost, 0x8000, 0, .idle, none) := by decide
theorem test_no_breakpoint_check_while_halted_db7 :
    outcome (((base.put 0x8000 [0x76]).setBreakpoint 0x8001).debugRun (fun k => k == 3) 9) =
      some (.stoppedByHost, 0x8001, 12, .idle, none) := by decide
theorem test_watchpoint_ids_are_not_reused_db9 :
    let s := (((p6.setWatchpoint .a .changed).2.setWatchpoint .b .changed).2.clearWatchpoint 0)
    (s.dbg.wps.map Watch.id, s.clearWatchpoint 0 = s, (s.setWatchpoint .a .changed).1) = ([1], True, 2) := by
  simp only [Prod.mk.injEq, eq_iff_iff, iff_true]
  decide
theorem test_render_db10 :
    (base.put 0x8000 [0xDD, 0xFD, 0x21, 0x34, 0x12, 0x76, 0x00]).render 0x8000 2 =
      (true, [⟨0x8000, [0xDD, 0xFD, 0x21, 0x34, 0x12], "[DD] LD IY,0x1234"⟩, ⟨0x8005, [0x76], "HALT"⟩]) := by decide

/-! ### The ZX Spectrum 48K ports and ROM loading (R487, R602) -/

theorem test_spectrum_keyboard_reads_the_selected_half_rows :
    spectrumPort ⟨#v[0b11110, 0b11111, 0b11111, 0b11111, 0b11111, 0b11111, 0b11111, 0b11111], false⟩ 0xFEFE = 0xBE ∧
      spectrumPort KeySnap.idle 0x7FFE = 0xBF ∧ spectrumPort KeySnap.idle 0x7FFF = 0xFF := by decide
theorem test_border_write : ulaOut ⟨.output, 0x07FE, 0x07, 0⟩ = some ⟨7, false, false⟩ := by decide
theorem test_rom_load_must_fit :
    (loadRom [] ⟨0x0000, 0x0001⟩ [1, 2]).isSome = true ∧ loadRom [] ⟨0x0000, 0x0001⟩ [1, 2, 3] = none := by decide

/-- `withFetchWord` places the instruction where the next step runs it. -/
theorem test_fetch_word_runs_first :
    (after (State.reset.withFetchWord 16 0x803E)).map (fun t => (t.a, t.pc, t.clock)) = some (0x80, 0x0002, 7) := by decide

/-! ### States that meet the hypotheses of the statements -/

/-- A ready machine: every mark and RESET_ENV clear. -/
theorem ready (s : State) (h : s.resetNow = false ∧ s.faulted = none ∧ s.refused = none) : s.engineReady := h

/-- Is the answer a next state? -/
def isNext : Result → Bool
  | .next _ => true
  | _ => false

theorem exists_next {r : Result} (h : isNext r = true) : ∃ t, r = .next t := by
  cases r with
  | next t => exact ⟨t, rfl⟩
  | fault _ => cases h
  | refused _ => cases h

/-- For every statement with `UNDOC = silicon`, `UNSET_READ = draw` or UNSET_READ = fault, and for those with both values of UNDOC. -/
theorem test_hypotheses_policies :
    base.cfg.undoc = .silicon ∧ base.cfg.unsetRead = .draw ∧ (unsetPowerOn []).cfg.unsetRead = .fault ∧
      refusing.cfg.undoc = .refuse ∧ (Instr.sllR .b).info.documented = false ∧ Instr.ldir.info.documented = true := by decide

theorem test_hypotheses_EveryStepKeepsTheStateInvariant :
    State.reset.Inv ∧ ∃ t, step State.reset = .next t :=
  ⟨⟨by decide, ⟨by decide, by decide, by decide⟩, by decide, by decide, by decide⟩, _, rfl⟩

theorem test_hypotheses_ResetMeetsTheStateInvariant : Memory.wf [] ∧ Memory.wf [(0, 0x01), (0xFFFF, 0xFF)] := by decide

theorem test_hypotheses_NoStepChangesRomOrParametersOrBreakpoints :
    (∃ t, step { base with cfg := Params.spectrum } = .next t) ∧
      ({ base with cfg := Params.spectrum } : State).inRom 0x0000 = true ∧
      ({ base with cfg := Params.spectrum } : State).inRom 0x3FFF = true := ⟨⟨_, rfl⟩, by decide⟩

/-- Each register of the statement is changed by a named writer. -/
theorem test_hypotheses_ControlRegistersHaveOnlyTheirNamedWriters :
    (∃ t, exec .ldIA { base with a := 0xFF } = .next t ∧ t.i ≠ base.i) ∧
      (∃ t, exec .ldRfshA { base with a := 0xFF } = .next t ∧ t.r.getLsbD 7 ≠ base.r.getLsbD 7) ∧
      (∃ t, exec .im2 base = .next t ∧ t.im ≠ base.im) ∧ (∃ t, exec (.imMirror 7) base = .next t ∧ t.im ≠ base.im) ∧
      (∃ t, exec .ei base = .next t ∧ t.iff1 ≠ base.iff1 ∧ t.iff2 ≠ base.iff2 ∧ t.eiShadow = true) ∧
      (∃ t, exec (.retnMirror 2) { base with iff2 := true } = .next t ∧ t.iff1 ≠ base.iff1) ∧
      (∃ t, exec .halt base = .next t ∧ t.halted ≠ base.halted) ∧
      (∃ t, exec .exAfAf { base with a := 1 } = .next t ∧ t.a' ≠ base.a') ∧
      (∃ t, exec .exx { base with b := 1 } = .next t ∧ t.b' ≠ base.b') := by
  refine ⟨⟨_, rfl, ?_⟩, ⟨_, rfl, ?_⟩, ⟨_, rfl, ?_⟩, ⟨_, rfl, ?_⟩, ⟨_, rfl, ?_⟩, ⟨_, rfl, ?_⟩, ⟨_, rfl, ?_⟩, ⟨_, rfl, ?_⟩, ⟨_, rfl, ?_⟩⟩ <;>
    decide

theorem test_hypotheses_RegisterFileReadsBackWhatWasWritten : RP.bc ≠ RP.sp := by decide

theorem test_hypotheses_MemoryReadsSeeTheLatestWrite :
    ({ base with cfg := Params.spectrum } : State).inRom 0x3FFF = true ∧
      ({ base with cfg := Params.spectrum } : State).inRom 0x4000 = false ∧
      ({ base with cfg := Params.spectrum } : State).inRom (0x4000 + 1) = false ∧
      base.inRom 0xFFFF = false ∧ base.inRom (0xFFFF + 1) = false := by decide

/-- The shortest and the longest documented instruction, one with wasted prefix bytes, at the top of memory. -/
theorem test_hypotheses_DecodeReturnsEveryEncodedInstruction :
    (let d : Decoded := ⟨[], .nop⟩;
      d.wf = true ∧ ∀ k, k < d.encode.length → some ((fun _ => 0x00 : Word → Byte) (0 + BitVec.ofNat 16 k)) = d.encode[k]?) ∧
    (let d : Decoded := ⟨[.ix], .ldIxNn .iy 0x1234⟩;
      let rd : Word → Byte := fun a => [0xFD, 0x21, 0x34, 0x12].getD a.toNat 0xDD
      d.wf = true ∧ ∀ k, k < d.encode.length → some (rd (0xFFFF + BitVec.ofNat 16 k)) = d.encode[k]?) := by decide

theorem test_hypotheses_DecodedInstructionEncodesToTheBytesRead :
    let rd : Word → Byte := fun a => [0xFD, 0x21, 0x34, 0x12].getD a.toNat 0xDD
    decodeFrom rd 0xFFFF = .ok ⟨[.ix], .ldIxNn .iy 0x1234⟩ ∧
      ∀ k, k < 5 → (fun a => [0xFD, 0x21, 0x34, 0x12, 0x55].getD a.toNat 0xDD : Word → Byte) (0xFFFF + BitVec.ofNat 16 k) =
        rd (0xFFFF + BitVec.ofNat 16 k) := by decide

theorem test_hypotheses_StepRunsTheDecodedInstruction :
    let s := base.put 0x8000 [0xDD, 0xFD, 0x21, 0x34, 0x12]
    s.engineReady ∧ s.interruptPending = false ∧ s.halted = false ∧
      decodeFrom s.memRead s.pc = .ok ⟨[.ix], .ldIxNn .iy 0x1234⟩ ∧
      s.cfg.unsetRead = .draw := ⟨ready _ (by decide), by decide⟩

/-- A halted boundary, with a masked INT and with none. -/
theorem test_hypotheses_HaltedTickOnlyCountsRAndTheClock :
    (let s := { base with halted := true };
      s.engineReady ∧ s.interruptPending = false ∧ s.halted = true) ∧
    (let s := ({ base with halted := true } : State).samples [int [0xFF]];
      s.engineReady ∧ s.interruptPending = false ∧ s.halted = true) :=
  ⟨⟨ready _ (by decide), by decide⟩, ready _ (by decide), by decide⟩

/-- A reset and an acknowledge end the wait. -/
theorem test_hypotheses_HaltedTick_the_wait_ends :
    (let s := { base with halted := true, env := { base.env with reset := .schedule [true] } };
      (after s).map State.halted = some false ∧ s.halted = true) ∧
    (let s := ({ enabled .im1 with halted := true } : State).samples [int [0xFF]];
      (after s).map State.halted = some false ∧ s.halted = true) := by decide

/-- The first and the last hole, at the top of memory. -/
theorem test_hypotheses_EdHolesAreTheListedBytesAndDoNothing :
    ∀ hole ∈ [(0x00 : Byte), 0x3F, 0x77, 0xC0, 0xFF],
      let rd : Word → Byte := fun a => if a = 0xFFFF then 0xED else hole
      rd 0xFFFF = 0xED ∧ isEdHole (rd (0xFFFF + 1)) = true := by decide

/-- A latched edge, and an edge at this boundary while halted with INT asserted. -/
theorem test_hypotheses_NmiAcknowledgeEntersAt0066 :
    (let s := { base with nmiLatch := true };
      s.engineReady ∧ s.cfg.unsetRead = .draw ∧ (s.nmiLatch = true ∨ s.intNow.nmiEdge = true)) ∧
    (let s := ({ enabled .im1 with halted := true } : State).samples [⟨true, true, []⟩];
      s.engineReady ∧ s.cfg.unsetRead = .draw ∧ (s.nmiLatch = true ∨ s.intNow.nmiEdge = true)) :=
  ⟨⟨ready _ (by decide), by decide⟩, ready _ (by decide), by decide⟩

/-- The state of a maskable acknowledge: mode and data. -/
def acknowledging (m : IMode) (data : List Byte) : State := (enabled m).samples [int data]

/-- Each mode, with the first and the last RST byte, no data, and one and two bytes in mode 2. -/
theorem test_hypotheses_MaskableAcknowledgeEntersByMode :
    (∀ p ∈ [(IMode.im1, []), (.im0, [0xC7]), (.im0, [0xFF]), (.im0, []), (.im2, [0x00]), (.im2, [0xFF, 0x01]), (.im2, [])],
      let s := acknowledging p.1 p.2
      (s.resetNow = false ∧ s.faulted = none ∧ s.refused = none) ∧ s.cfg.unsetRead = .draw ∧ s.nmiLatch = false ∧
      s.intNow.nmiEdge = false ∧ s.intNow.intLine = true ∧ s.iff1 = true ∧ s.eiShadow = false ∧ s.im = p.1 ∧
      s.intNow.intData = p.2) ∧
    BitVec.ofNat 8 (0xC7 + 8 * (0 : BitVec 3).toNat) = 0xC7 ∧ BitVec.ofNat 8 (0xC7 + 8 * (7 : BitVec 3).toNat) = 0xFF := by decide

/-- A byte beside RST 0, and an RST byte followed by another. -/
theorem test_hypotheses_ModeZeroRefusesDataThatIsNoRst :
    ∀ data ∈ [[0xC6], [0xC7, 0x00]],
      let s := acknowledging .im0 data
      (s.resetNow = false ∧ s.faulted = none ∧ s.refused = none) ∧ s.nmiLatch = false ∧ s.intNow.nmiEdge = false ∧
      s.intNow.intLine = true ∧ s.iff1 = true ∧ s.eiShadow = false ∧ s.im = .im0 ∧ s.intNow.intData ≠ [] ∧
      ∀ y : BitVec 3, s.intNow.intData ≠ [BitVec.ofNat 8 (0xC7 + 8 * y.toNat)] := by decide

theorem test_hypotheses_EiShadowHoldsTheMaskableInterruptOff :
    (∃ t, step (base.put 0x8000 [0xFB]) = .next t ∧ t.eiShadow = true) ∧
    (let s := ({ enabled .im1 with eiShadow := true } : State).samples [int [0xFF]];
      s.engineReady ∧ s.nmiLatch = false ∧ s.intNow.nmiEdge = false ∧ s.eiShadow = true ∧ s.halted = false) ∧
    (let s := { base with eiShadow := true, halted := true };
      s.engineReady ∧ s.nmiLatch = false ∧ s.intNow.nmiEdge = false ∧ s.eiShadow = true ∧ s.halted = true) :=
  ⟨⟨_, rfl, by decide⟩, ⟨ready _ (by decide), by decide⟩, ready _ (by decide), by decide⟩

/-- A faulted state, a refused state, a step, and a call that sets a mark. -/
theorem test_hypotheses_MarksStopTheEngineAndStay :
    (let s := { base with faulted := some (.unsetRead .a) };
      s.resetNow = false ∧ s.faulted = some (.unsetRead .a)) ∧
    (let s := { base with refused := some (.im0Data [0]) };
      s.resetNow = false ∧ s.faulted = none ∧ s.refused = some (.im0Data [0])) ∧
    (∃ t, step base = .next t) ∧
    (∃ ret t, ({ base with refused := some (.im0Data [0]) } : State).debugStep = some (ret, t)) ∧
    ((unsetPowerOn [0x78]).debugStep.map (fun p => (p.1, p.2.faulted))) = some (.fault (.unsetRead .b), some (.unsetRead .b)) :=
  ⟨by decide, by decide, ⟨_, rfl⟩, ⟨_, _, rfl⟩, by decide⟩

/-- States that are not final: a faulted, a refused and a stuck one, each with PC in END_PCS. -/
theorem test_hypotheses_MarksStopTheEngineAndStay_not_final :
    ({ endingAt [0x8000] [] with faulted := some (.unsetRead .a) } : State).faulted ≠ none ∧
    ({ endingAt [0x8000] [] with refused := some (.im0Data [0]) } : State).refused ≠ none ∧
    step (endingAt [0x8000] (allDD 65536 [])) = .fault .prefixHang :=
  ⟨by decide, by decide, State.isStuck_iff.mp test_stuck_state_is_not_final.1⟩

/-- A running, a halted and a marked state. -/
theorem test_hypotheses_WarmResetClearsControlStateOnly :
    ∀ s ∈ [base, { base with halted := true }, { base with faulted := some (.unsetRead .a) }],
      ({ s with env := { s.env with reset := .schedule [true] } } : State).resetNow = true := by decide

/-- Each of the four stops happens in a state with no mark (the prefix chain: `test_step_is_stuck_on_prefixes_x_5`). -/
theorem test_hypotheses_StepStopsOnlyAsTheSpecLists :
    (endingAt [] (allDD 65536 [])).isStuck = true ∧
    (let s := unsetPowerOn [0x78];
      s.faulted = none ∧ s.refused = none ∧ step s = .fault (.invariant (.unsetRead .b))) ∧
    (let s := acknowledging .im0 [0x00];
      s.faulted = none ∧ s.refused = none ∧ step s = .refused (.im0Data [0x00])) ∧
    (let s := refusing.put 0x8000 [0xCB, 0x30];
      s.faulted = none ∧ s.refused = none ∧ step s = .refused (.undocumented "SLL r")) :=
  ⟨test_step_is_stuck_on_prefixes_x_5, ⟨rfl, rfl, rfl⟩, ⟨rfl, rfl, rfl⟩, rfl, rfl, rfl⟩

/-- An instruction that reads a marked register, one that reads none, and the exchanges. -/
theorem test_hypotheses_UnsetReadFaultsAndWritesClearMarks :
    (∀ bytes ∈ [[0x78], [0x06, 0x05], [0x08], [0xD9]],
      let s := unsetPowerOn bytes
      (s.resetNow = false ∧ s.faulted = none ∧ s.refused = none) ∧ s.interruptPending = false ∧ s.halted = false ∧
      s.cfg.unsetRead = .fault ∧ s.cfg.undoc = .silicon) ∧
    decodeFrom (unsetPowerOn [0x78]).memRead 0 = .ok ⟨[], .ldRR .a .b⟩ ∧
    (Loc.b ∈ readLocs (.ldRR .a .b) (unsetPowerOn [0x78]) ∧ Loc.b ∈ (unsetPowerOn [0x78]).unset) ∧
    (∀ bytes i, (bytes, i) ∈ [([0x06, 0x05], Instr.ldRN .b 0x05), ([0x08], .exAfAf), ([0xD9], .exx)] →
      decodeFrom (unsetPowerOn bytes).memRead 0 = .ok ⟨[], i⟩ ∧
      ∀ loc ∈ readLocs i (unsetPowerOn bytes), loc ∉ (unsetPowerOn bytes).unset) := by
  refine ⟨by decide, rfl, by decide, fun bytes i h => ?_⟩
  simp only [List.mem_cons, Prod.mk.injEq, List.not_mem_nil, or_false] at h
  obtain ⟨rfl, rfl⟩ | ⟨rfl, rfl⟩ | ⟨rfl, rfl⟩ := h <;> exact ⟨rfl, by decide⟩

/-- The fixture with a stack that wraps at its next push. -/
def wrappingStack : State := { base with sp := 0x0001 }

theorem test_hypotheses_PopLoadsFromTheStackPointer :
    ∃ s t, s.inRom (s.sp - 1) = false ∧ s.inRom (s.sp - 2) = false ∧ exec (.pushQq .af) s = .next t := by
  obtain ⟨t, h⟩ := exists_next (r := exec (.pushQq .af) wrappingStack) (by decide)
  exact ⟨wrappingStack, t, by decide, by decide, h⟩

/-- A documented form with an 8-bit and one with a 16-bit operand, the ED duplicates, an undocumented form, and other spellings. -/
theorem test_hypotheses_AssemblingATextGivesItsBytesBack :
    (∀ i ∈ [Instr.ldRN .a 0xFF, .jpNn 0xFFFF, .ldNnIndDd .hl 0x9000, .ldDdNnInd .hl 0],
      i.wf = true ∧ i.info.documented = true) ∧
    (Instr.imMirror 7).wf = true ∧ instrText (.imMirror 7) = "IM 2" ∧ .im2 ∈ assembleForms (instrText (.imMirror 7)) ∧
    "SLI B" ∈ spellings (.sllR .b) ∧ "XOR A,HX" ∈ spellings (.xorHalf .ix .xh) := by decide

/-- The least and the greatest count. -/
theorem test_hypotheses_LdirTakesOneIterationPerByte :
    (({ base with c := 1 } : State).bc = BitVec.ofNat 16 1 ∧ 1 ≤ 1 ∧ 1 < 65536) ∧
      (({ base with b := 0xFF, c := 0xFF } : State).bc = BitVec.ofNat 16 65535 ∧ 1 ≤ 65535 ∧ 65535 < 65536) := by decide

/-- The least and the greatest decimal operands. -/
theorem test_hypotheses_DaaAfterAddOrSubIsDecimal :
    ∀ m ∈ [0, 99], ∀ n ∈ [0, 99],
      m < 100 ∧ n < 100 ∧ ({ base with a := bcd m } : State).a = bcd m ∧
      isNext (exec (.addAN (bcd n)) { base with a := bcd m }) = true ∧
      isNext (exec (.subN (bcd n)) { base with a := bcd m }) = true := by decide

/-- Every condition holds in one state and fails in another; DJNZ with B at 1, 0 and 2. -/
theorem test_hypotheses_JumpsCallsAndReturns :
    (condHolds base .nz ∧ condHolds base .nc ∧ condHolds base .po ∧ condHolds base .p) ∧
    (condHolds { base with f := 0xFF } .z ∧ condHolds { base with f := 0xFF } .c ∧ condHolds { base with f := 0xFF } .pe ∧
      condHolds { base with f := 0xFF } .m) ∧
    (¬condHolds base .z ∧ ¬condHolds base .c ∧ ¬condHolds base .pe ∧ ¬condHolds base .m) ∧
    (¬condHolds { base with f := 0xFF } .nz ∧ ¬condHolds { base with f := 0xFF } .nc ∧ ¬condHolds { base with f := 0xFF } .po ∧
      ¬condHolds { base with f := 0xFF } .p) ∧
    ({ base with b := 1 } : State).b = 1 ∧ base.b ≠ 1 ∧ ({ base with b := 2 } : State).b ≠ 1 := by
  unfold condHolds; decide

theorem test_hypotheses_BreakpointsAreASet :
    (Dbg.Ok base.dbg ∧ 0x1234 ∉ base.dbg.bps ∧ Dbg.Ok (base.setBreakpoint 0x0002).dbg) ∧
    ∃ t, step (base.setBreakpoint 0x0002) = .next t :=
  ⟨by unfold Dbg.Ok; decide, _, rfl⟩

/-- Two watchpoints, of which one fires. -/
theorem test_hypotheses_StepCallReportsTheWatchpointsThatFire :
    let s := ((p6.setWatchpoint .a .changed).2.setWatchpoint .b .changed).2
    Dbg.Ok s.dbg ∧ s.resetNow = false ∧ ∃ t, s.debugStep = some (.stepped [1], t) :=
  ⟨by unfold Dbg.Ok; decide, by decide, _, rfl⟩

/-- A step that sets either mark. -/
theorem test_hypotheses_StepCallReportsTheWatchpointsThatFire_marks :
    (let s := ((unsetPowerOn [0x78]).setWatchpoint .b .changed).2;
      Dbg.Ok s.dbg ∧ s.resetNow = false ∧ s.faulted = none ∧ s.refused = none ∧
      step (s.setMode .steppingOne) = .fault (.invariant (.unsetRead .b))) ∧
    (let s := ((refusing.put 0x8000 [0xCB, 0x30]).setWatchpoint .b .changed).2;
      Dbg.Ok s.dbg ∧ s.resetNow = false ∧ s.faulted = none ∧ s.refused = none ∧
      step (s.setMode .steppingOne) = .refused (.undocumented "SLL r")) :=
  ⟨⟨by unfold Dbg.Ok; decide, rfl, rfl, rfl, rfl⟩, by unfold Dbg.Ok; decide, rfl, rfl, rfl, rfl⟩

/-- A run that reaches a breakpoint, and one that starts on one: idle, and resumed from another breakpoint. -/
theorem test_hypotheses_RunStopsBeforeTheBreakpoint :
    (∃ t, (p6.setBreakpoint 0x0003).debugRun noStop 9 = .returned (.atBreakpoint 0x0003) t) ∧
    (let s := p6.setBreakpoint 0x0000;
      s.faulted = none ∧ s.refused = none ∧ noStop 0 = false ∧ s.halted = false ∧ s.pc ∈ s.dbg.bps ∧
      ¬(s.dbg.mode = .stoppedAtBreakpoint ∧ s.dbg.stopBp = some s.pc)) ∧
    (let s := { p6 with dbg := ⟨.stoppedAtBreakpoint, [0x0000, 0x0003], [], 0, some 0x0003, []⟩ };
      s.faulted = none ∧ s.refused = none ∧ s.halted = false ∧ s.pc ∈ s.dbg.bps ∧
      ¬(s.dbg.mode = .stoppedAtBreakpoint ∧ s.dbg.stopBp = some s.pc)) := ⟨⟨_, rfl⟩, by decide, by decide⟩

/-- A later boundary on a breakpoint, resumed from nothing and from another, and three boundaries that go on: on the breakpoint
resumed from, halted on one, and on none. -/
theorem test_hypotheses_RunStopsBeforeTheBreakpoint_later :
    (let s := p6.setBreakpoint 0x0000;
      noStop 7 = false ∧ s.halted = false ∧ s.pc ∈ s.dbg.bps ∧ none ≠ some s.pc ∧ some 0x0003 ≠ some s.pc) ∧
    (∀ s ∈ [p6.setBreakpoint 0x0000, { p6.setBreakpoint 0x0000 with halted := true }, p6.setBreakpoint 0x0003],
      (s.halted = true ∨ s.pc ∉ s.dbg.bps ∨ some 0x0000 = some s.pc) ∧
      (after s).map (fun t => (t.faulted, t.refused, (s.evalAfter t).dbg.fired)) = some (none, none, [])) := by decide

end Sys2Proof.Tests
end

/-!
SUPPORT. The state family (10_state.md): what every instruction makes of the control registers and that it completes, the read-back
laws of the register file, what keeps the marks, and the guard of UNSET_READ = fault; with them the statements O2, O5, O7,
O20 and O23 settled.
-/

namespace Sys2Proof.Machine

/-! ### The control registers and the shadow bank -/

/-- What R42 and R51 to R55 give named writers only: I, R[7], the interrupt and hidden bits, the shadow bank. -/
structure Control where
  i : Byte
  r7 : Bool
  im : IMode
  iff1 : Bool
  iff2 : Bool
  halted : Bool
  eiShadow : Bool
  a' : Byte
  f' : Byte
  b' : Byte
  c' : Byte
  d' : Byte
  e' : Byte
  h' : Byte
  l' : Byte

/-- The control registers of a state. -/
def State.control (s : State) : Control :=
  ⟨s.i, s.r.getLsbD 7, s.im, s.iff1, s.iff2, s.halted, s.eiShadow, s.a', s.f', s.b', s.c', s.d', s.e', s.h', s.l'⟩

/-- What an instruction makes of the control registers: the named writers write theirs, every other ends the EI shadow and
keeps the rest. -/
def controlAfter (i : Instr) (s : State) : Control :=
  let k : Control := { s.control with eiShadow := false }
  match i with
  | .ldIA => { k with i := s.a }
  | .ldRfshA => { k with r7 := s.a.getLsbD 7 }
  | .im0 => { k with im := .im0 }
  | .im1 => { k with im := .im1 }
  | .im2 => { k with im := .im2 }
  | .imMirror y => { k with im := imField y }
  | .di => { k with iff1 := false, iff2 := false }
  | .ei => { k with iff1 := true, iff2 := true, eiShadow := true }
  | .retn | .reti | .retnMirror _ => { k with iff1 := s.iff2 }
  | .halt => { k with halted := true }
  | .exAfAf => { k with a' := s.a, f' := s.f }
  | .exx => { k with b' := s.b, c' := s.c, d' := s.d, e' := s.e, h' := s.h, l' := s.l }
  | _ => k

/-- The answer of an instruction run in `s`: a next state with the control registers `k`, or, under UNDOC = refuse only, the
refusal of an undocumented form (R160). -/
def Answers (s : State) (k : Control) (r : Result) : Prop :=
  (∃ t, r = .next t ∧ t.control = k) ∨ s.cfg.undoc = .refuse ∧ ∃ form, r = .refused (.undocumented form)

section
variable {s u v : State} {k : Control}

theorem answers_next (h : u.control = k) : Answers s k (.next u) := .inl ⟨u, rfl, h⟩

theorem answers_done {n : Nat} (h : { u.control with eiShadow := false } = k) : Answers s k (u.done n) :=
  answers_next h

theorem answers_undocumented {form : String} {r : Result} (h : Answers s k r) : Answers s k (s.undocumented form r) := by
  cases hu : s.cfg.undoc with
  | silicon => rwa [State.undocumented_silicon hu]
  | refuse => exact .inr ⟨hu, form, State.undocumented_refuse hu form r⟩

theorem answers_branch {b : Bool} {m n : Nat} (hu : { u.control with eiShadow := false } = k)
    (hv : { v.control with eiShadow := false } = k) : Answers s k (v.branch b u m n) := by
  unfold State.branch
  split
  · exact answers_done hu
  · exact answers_done hv

/-- Repeating a block form writes F and PC only, so both ends of an iteration leave the same control registers. -/
theorem answers_endIteration {b : Bool} {draws : Byte} (h : { u.control with eiShadow := false } = k) :
    Answers s k (u.endIteration b draws) := by
  unfold State.endIteration
  split
  · exact answers_done h
  · exact answers_done h

end

/-- The fetch counts R[6:0] only (R52). -/
theorem State.fetch_control (s : State) (length m1 : Nat) : (s.fetch length m1).control = s.control := by
  simp [State.control]

/-- A block search writes F, HL and BC only (R285). -/
theorem State.blockSearch_control (s : State) (step : Word) : (s.blockSearch step).control = s.control := rfl

/-- Every instruction completes, or is an undocumented form under UNDOC = refuse; and it writes of the control registers what
`controlAfter` says. -/
theorem exec_answers (i : Instr) (s : State) : Answers s (controlAfter i s) (exec i s) := by
  cases i
  case ei => exact answers_next (by simp [controlAfter, State.control])
  case djnz | jrCc | retCc | jpCcNn | callCcNn =>
    exact answers_branch (by simp [controlAfter, State.control]) (by simp [controlAfter, State.control])
  case cpi | cpd => exact answers_done (by rw [State.blockSearch_control, State.fetch_control]; rfl)
  case cpir | cpdr => exact answers_endIteration (by rw [State.blockSearch_control, State.fetch_control]; rfl)
  case ldir | inir | otir | lddr | indr | otdr =>
    exact answers_endIteration (by simp [controlAfter, State.control])
  case sllR | sllHlInd | negMirror | imMirror | retnMirror | inFC | outC0 | incHalf | decHalf | ldHalfN | ldHalves | addAHalf
      | adcAHalf | subHalf | sbcAHalf | andHalf | xorHalf | orHalf | cpHalf | rlcIxdR | rrcIxdR | rlIxdR | rrIxdR | slaIxdR
      | sraIxdR | sllIxdR | sllIxd | srlIxdR | bitBIxdZ | resBIxdR | setBIxdR =>
    exact answers_undocumented (answers_done (by simp [controlAfter, State.control]))
  all_goals exact answers_done (by simp [controlAfter, State.control])

/-- An instruction that completes leaves the control registers `controlAfter` says. -/
theorem exec_control {i : Instr} {s t : State} (h : exec i s = .next t) : t.control = controlAfter i s := by
  obtain ⟨u, hu, hk⟩ | ⟨_, _, hr⟩ := exec_answers i s
  · rw [hu] at h
    cases h
    exact hk
  · rw [hr] at h
    cases h

/-- Under UNDOC = silicon every instruction completes (R160). -/
theorem exec_completes (i : Instr) {s : State} (hs : s.cfg.undoc = .silicon) : ∃ t, exec i s = .next t := by
  obtain ⟨t, ht, _⟩ | ⟨hr, _⟩ := exec_answers i s
  · exact ⟨t, ht⟩
  · rw [hs] at hr
    cases hr

/-- Settles O5: each arm of `controlAfter` answers every clause about the registers it lists, and `exec_frame` is the rest. -/
theorem controlRegistersHaveOnlyTheirNamedWriters : Obligations.ControlRegistersHaveOnlyTheirNamedWriters := by
  intro i s t h
  have f := exec_frame i s t h
  obtain ⟨hcfg, -, -⟩ := f.keeps
  have hrest : t.nmiLatch = s.nmiLatch ∧ t.dbg = s.dbg ∧ t.cfg = s.cfg ∧ t.faulted = s.faulted ∧ t.refused = s.refused ∧
      t.unset = s.unset ∧ t.env.int = s.env.int ∧ t.env.reset = s.env.reset :=
    ⟨f.nmiLatch, f.dbg, hcfg, f.faulted, f.refused, f.unset, f.int, f.reset⟩
  have hk := exec_control h
  unfold controlAfter at hk
  split at hk <;> simp_all [State.control]

/-! ### Reset -/

theorem Loc.all_nodup : Loc.all.Nodup := by decide

/-- The invariant holds at every power-on with a canonical initial memory. -/
theorem powerOn_inv (cfg : Params) (env : Env) {m : Memory} (w : ResetDraw) (hm : Memory.wf m) :
    (State.powerOn cfg env m w).Inv := by
  refine ⟨hm, ⟨.nil, .nil, nofun⟩, nofun, .nil, ?_⟩
  cases h : cfg.unsetRead with
  | draw => simp [State.powerOn, h]
  | fault => simpa [State.powerOn, h] using Loc.all_nodup

/-- Settles O2: `State.reset` is the power-on with no memory listed. -/
theorem resetMeetsTheStateInvariant : Obligations.ResetMeetsTheStateInvariant :=
  ⟨powerOn_inv _ _ _ State.reset_mem_wf, fun cfg env _ w hm => powerOn_inv cfg env w hm⟩

/-! ### The register file -/

section
variable (s : State)

/-- A write of a register of table r writes no other field. -/
theorem State.setReg8_eq (k : Reg8) (v : Byte) :
    ∃ a b c d e h l, s.setReg8 k v = { s with a := a, b := b, c := c, d := d, e := e, h := h, l := l } := by
  cases k <;> exact ⟨_, _, _, _, _, _, _, rfl⟩

/-- A read of the pair written gives the value; every other pair of table rp keeps its own (R43). -/
theorem rp_setRP (p q : RP) (w : Word) : (s.setRP p w).rp q = if q = p then w else s.rp q := by
  cases p <;> cases q <;> simp [State.setRP, State.rp, State.bc, State.de, State.hl]

theorem rp2_setRP2 (p : RP2) (w : Word) : (s.setRP2 p w).rp2 p = w := by
  cases p <;> simp [State.setRP2, State.rp2, State.bc, State.de, State.hl, State.af]

/-- A read of the index half written gives the value; the other three halves keep their own (R48). -/
theorem half_setHalf (x y : Idx) (p q : Half) (v : Byte) :
    (s.setHalf x p v).half y q = if x = y ∧ p = q then v else s.half y q := by
  obtain rfl | hxy := eq_or_ne x y
  · cases p <;> cases q <;> simp [State.setHalf, State.half, idx_setIdx]
  · cases p <;> cases q <;> simp [State.setHalf, State.half, idx_setIdx, hxy, hxy.symm]

/-- A read of the entry of table r' written gives the value; every other entry keeps its own (R218). -/
theorem xreg8_setXReg8 (x : Idx) (k j : XReg8) (v : Byte) :
    (s.setXReg8 x k v).xreg8 x j = if j = k then v else s.xreg8 x j := by
  cases k <;> cases j <;> simp [State.setXReg8, State.xreg8, half_setHalf]
  all_goals rfl

end

/-- Settles O7: a read-back law for each kind of operand, and the pairs in numbers by `join_eq`. -/
theorem registerFileReadsBackWhatWasWritten : Obligations.RegisterFileReadsBackWhatWasWritten := by
  intro s v w
  refine ⟨fun k j => reg8_setReg8 s k j v, fun k => s.setReg8_eq k v, fun p => by simp [rp_setRP], fun p => rp2_setRP2 s p w,
    fun p q hpq => by simp [rp_setRP, hpq.symm], fun x y => idx_setIdx s x y w, fun x y p q => half_setHalf s x y p q v,
    fun x k j => xreg8_setXReg8 s x k j v, fun p => ?_⟩
  cases p
  case sp => rfl
  all_goals exact join_eq _ _

/-! ### Marks -/

section
variable {s t : State}

/-- A maskable acknowledge that is not refused enters a handler with both flip-flops clear (R531, R533). -/
theorem State.intAck_next {data : List Byte} (h : s.intAck data = .next t) :
    ∃ n target, t = s.enterHandler false n target := by
  unfold State.intAck at h
  repeat' split at h
  all_goals cases h
  all_goals exact ⟨_, _, rfl⟩

/-- A step that answers a next state, a reset too, keeps both marks (R64, R601). -/
theorem step_keeps_marks (h : step s = .next t) : t.faulted = s.faulted ∧ t.refused = s.refused := by
  obtain ⟨-, rfl⟩ | ⟨-, s', rfl, ⟨-, rfl⟩ | ⟨-, -, ha⟩ | ⟨-, -, -, rfl⟩ | ⟨-, -, -, d, u, -, hu, ht, -⟩⟩ := step_cases h
  · exact ⟨rfl, rfl⟩
  · simp [State.nmiAck, State.latchNmi]
  · obtain ⟨n, target, rfl⟩ := State.intAck_next ha
    simp [State.latchNmi]
  · exact ⟨rfl, rfl⟩
  · have f := exec_frame _ _ _ hu
    rw [ht]
    exact ⟨f.faulted, f.refused⟩

/-- `step()` of a state with a mark returns it and changes nothing (R563). -/
theorem State.debugStep_of_mark {ret : DbgReturn} (h : s.markReturn = some ret) : s.debugStep = some (ret, s) := by
  simp [State.debugStep, h]

/-- `run()` of a state with a mark returns it and changes nothing (R570). -/
theorem State.debugRun_of_mark {ret : DbgReturn} (h : s.markReturn = some ret) (stop : Nat → Bool) (fuel : Nat) :
    s.debugRun stop fuel = .returned ret s := by
  simp [State.debugRun, h]

/-- `step()` leaves a state with a mark as it is. -/
theorem State.debugStep_keeps_marked {ret : DbgReturn} (hm : s.faulted ≠ none ∨ s.refused ≠ none)
    (h : s.debugStep = some (ret, t)) : t = s := by
  cases hr : s.markReturn with
  | none =>
    obtain ⟨hf, hr⟩ := State.markReturn_eq_none.mp hr
    simp [hf, hr] at hm
  | some ret' =>
    rw [State.debugStep_of_mark hr] at h
    cases h
    rfl

/-- No state with a mark and no stuck state is final (R503, R575). -/
theorem State.isFinal_eq_false (h : s.faulted ≠ none ∨ s.refused ≠ none ∨ step s = .fault .prefixHang) :
    s.isFinal = false := by
  rw [← Bool.not_eq_true, State.isFinal_iff]
  rintro ⟨-, -, hf, hr, hp⟩
  simp [hf, hr, hp] at h

end

/-- Settles O20: a step keeps the marks, and every call of a marked state returns its mark at once. -/
theorem marksStopTheEngineAndStay : Obligations.MarksStopTheEngineAndStay := by
  refine ⟨fun s h => (step_of_marked h).1, fun s h => (step_of_marked h).2, fun s t => step_keeps_marks,
    fun s stop fuel => ⟨fun r hf => ?_, fun r hf hr => ?_⟩, fun s t ret h => ⟨fun hm => ?_, fun hm => ?_⟩,
    fun s => State.isFinal_eq_false⟩
  · have := State.markReturn_of_faulted hf
    exact ⟨State.debugStep_of_mark this, State.debugRun_of_mark this stop fuel⟩
  · have := State.markReturn_of_refused hf hr
    exact ⟨State.debugStep_of_mark this, State.debugRun_of_mark this stop fuel⟩
  · rw [State.debugStep_keeps_marked (.inl hm) h]
  · rw [State.debugStep_keeps_marked (.inr hm) h]

/-! ### Unset locations -/

theorem swapAF_involutive : Function.Involutive swapAF := by
  intro x
  cases x <;> rfl

theorem swapX_involutive : Function.Involutive swapX := by
  intro x
  cases x <;> rfl

/-- Of an instruction that is no exchange, the marks left are those of the locations it does not write (R62). -/
theorem mem_marksAfter {i : Instr} {marks : List Loc} {loc : Loc} (hAF : i ≠ .exAfAf) (hX : i ≠ .exx) :
    loc ∈ marksAfter i marks ↔ loc ∈ marks ∧ loc ∉ writtenLocs i := by
  unfold marksAfter
  split
  · exact absurd rfl hAF
  · exact absurd rfl hX
  · simp

section
variable {s t : State} {locs : List Loc} {marks : List Loc → List Loc}

/-- The guard of a step that would complete faults on the first marked location read (R62). -/
theorem State.guardUnset_of_marked (hc : s.cfg.unsetRead = .fault) (hl : ∃ loc, loc ∈ locs ∧ loc ∈ s.unset) :
    ∃ loc, loc ∈ locs ∧ loc ∈ s.unset ∧ s.guardUnset locs marks (.next t) = .fault (.invariant (.unsetRead loc)) := by
  cases hf : locs.find? (fun x => s.unset.contains x) with
  | none =>
    obtain ⟨loc, hr, hm⟩ := hl
    simpa [hm] using List.find?_eq_none.mp hf loc hr
  | some loc =>
    have hm := List.find?_some hf
    exact ⟨loc, List.mem_of_find?_eq_some hf, by simpa using hm, by simp only [State.guardUnset, hc, hf]⟩

/-- The guard of a step that reads no marked location only moves the marks (R62). -/
theorem State.guardUnset_of_clean (hc : s.cfg.unsetRead = .fault) (hl : ∀ loc, loc ∈ locs → loc ∉ s.unset) :
    s.guardUnset locs marks (.next t) = .next { t with unset := marks s.unset } := by
  have hf : locs.find? (fun x => s.unset.contains x) = none := by simpa using hl
  simp only [State.guardUnset, hc, hf]

end

/-! ### The instruction step under the guard -/

/-- At a boundary with no reset, mark, interrupt or HALT a step runs the instruction decoded at PC (R520, R521). -/
theorem step_eq_runDecoded {s : State} {d : Decoded} (hr : s.engineReady) (hi : s.interruptPending = false)
    (hh : s.halted = false) (hd : decodeFrom s.memRead s.pc = .ok d) : step s = s.tick.runDecoded d := by
  simp only [State.interruptPending, Bool.or_eq_false_iff] at hi
  obtain ⟨⟨hl, he⟩, ha⟩ := hi
  have ha' : s.tick.acceptsInt s.intNow = false := ha
  have hd' : s.tick.decodeAtPc = .ok d := hd
  rw [step_of_ready hr, State.latchNmi_quiet he]
  simp [State.engineBody, State.instrStep, hl, hh, ha', hd']

/-- What an instruction reads does not depend on the samples to come. -/
theorem readLocs_tick (i : Instr) (s : State) : readLocs i s.tick = readLocs i s := rfl

/-- Under UNDOC = silicon, a decoded instruction runs to a next state, but for the guard. -/
theorem State.runDecoded_completes {s : State} (d : Decoded) (hs : s.cfg.undoc = .silicon) :
    ∃ t, s.runDecoded d = s.guardUnset (readLocs d.instr s) (marksAfter d.instr) (.next t) := by
  obtain ⟨t, ht⟩ := exec_completes d.instr (s := s.skipPrefixes d.wasted.length) hs
  exact ⟨_, by rw [State.runDecoded, ht]; rfl⟩

/-- Settles O23: the step is the guard around an instruction that completes; the guard faults on a marked location read, and
otherwise leaves the marks `marksAfter` gives. -/
theorem unsetReadFaultsAndWritesClearMarks : Obligations.UnsetReadFaultsAndWritesClearMarks := by
  intro s d hr hi hh hc hd hs
  obtain ⟨t, ht⟩ := State.runDecoded_completes (s := s.tick) d hs
  rw [step_eq_runDecoded hr hi hh hd, ht, readLocs_tick]
  refine ⟨State.guardUnset_of_marked (s := s.tick) hc, fun hl => ⟨_, State.guardUnset_of_clean (s := s.tick) hc hl,
    fun hAF hX loc => mem_marksAfter hAF hX, fun he loc => ?_, fun he loc => ?_⟩⟩
  · rw [he]
    exact List.mem_map_of_involutive swapAF_involutive
  · rw [he]
    exact List.mem_map_of_involutive swapX_involutive

end Sys2Proof.Machine

/-!
SUPPORT. The memory family (20_memory.md): what every step of a boundary, of whatever kind, leaves as it was, said once
(`StepFrame`, `step_frame`), and the Word that a store of a Word leaves; with them the statements O3, O4 and O8 settled.
-/

namespace Sys2Proof.Machine

/-! ### What every step keeps -/

/-- What a step of any kind (R520, R601) leaves as it was, and the one port event it may log, dated at its start (R470). -/
structure StepFrame (s t : State) : Prop where
  keeps : KeepsMemory s t
  clock : s.clock ≤ t.clock
  log : t.ioLog = s.ioLog ∨ ∃ e, e.time = s.clock ∧ t.ioLog = s.ioLog ++ [e]
  bps : t.dbg.bps = s.dbg.bps
  wps : t.dbg.wps = s.dbg.wps
  nextId : t.dbg.nextId = s.dbg.nextId
  unset : s.unset.Nodup → t.unset.Nodup

/-- The marks stay free of repetitions: a write only removes some, and an exchange moves them by an injection (R62). -/
theorem marksAfter_nodup (i : Instr) {marks : List Loc} (h : marks.Nodup) : (marksAfter i marks).Nodup := by
  unfold marksAfter
  split
  · exact h.map swapAF_involutive.injective
  · exact h.map swapX_involutive.injective
  · exact h.filter _

section
variable {s u t : State}

/-- Taking an interrupt pushes PC and touches no log, controller or mark (R530, R531, R533). -/
theorem StepFrame.enterHandler (f : StepFrame s u) (iff2 : Bool) (n : Nat) (target : State → Word) :
    StepFrame s (u.enterHandler iff2 n target) where
  keeps := f.keeps.trans (keepsMemory_enterHandler u iff2 n target)
  clock := f.clock.trans (by simp)
  log := by simpa using f.log
  bps := by simpa using f.bps
  wps := by simpa using f.wps
  nextId := by simpa using f.nextId
  unset := by simpa using f.unset

/-- Sampling a boundary's inputs uses up the samples and may set the NMI latch (R511, R520). -/
theorem stepFrame_latchNmi (s : State) (k : IntSample) : StepFrame s (s.tick.latchNmi k) :=
  ⟨.of_eq rfl rfl, Nat.le_refl _, .inl rfl, rfl, rfl, rfl, id⟩

/-- An NMI acknowledge clears the latch and enters the handler (R530). -/
theorem StepFrame.nmiAck (f : StepFrame s u) : StepFrame s u.nmiAck := by
  have hclear : StepFrame s { u with nmiLatch := false } :=
    ⟨f.keeps.of_mem rfl rfl, f.clock, f.log, f.bps, f.wps, f.nextId, f.unset⟩
  unfold State.nmiAck
  exact hclear.enterHandler ..

/-- A halted tick moves R and the clock (R522). -/
theorem StepFrame.haltTick (f : StepFrame s u) : StepFrame s u.haltTick :=
  ⟨f.keeps.of_mem rfl rfl, f.clock.trans (Nat.le_add_right _ _), f.log, f.bps, f.wps, f.nextId, f.unset⟩

/-- A warm reset clears control registers and the controller's mode, not its breakpoints or watchpoints (R601). -/
theorem stepFrame_warmReset (s : State) : StepFrame s s.tick.warmReset :=
  ⟨.of_eq rfl rfl, Nat.le_refl _, .inl rfl, rfl, rfl, rfl, id⟩

/-- An instruction step adds to `exec` the T-states of the wasted bytes before it and the moves of the marks (R62, R348, R521). -/
theorem ExecFrame.stepFrame {d : Decoded} {k : IntSample}
    (f : ExecFrame ((s.tick.latchNmi k).skipPrefixes d.wasted.length) u)
    (ht : t = { u with clock := u.clock + 4 * d.wasted.length, unset := t.unset })
    (hm : t.unset = u.unset ∨ t.unset = marksAfter d.instr s.unset) : StepFrame s t := by
  have hmem : t.mem = u.mem := by rw [ht]
  have hcfg : t.cfg = u.cfg := by rw [ht]
  have hclock : t.clock = u.clock + 4 * d.wasted.length := by rw [ht]
  have hlog : t.ioLog = u.ioLog := by rw [ht]
  have hdbg : t.dbg = s.dbg := by rw [ht]; exact f.dbg
  have hle : s.clock ≤ u.clock := f.clock
  refine ⟨(KeepsMemory.of_eq rfl rfl).trans (f.keeps.of_mem hmem hcfg), by omega, hlog ▸ f.log, by rw [hdbg], by rw [hdbg],
    by rw [hdbg], fun h => ?_⟩
  rcases hm with hm | hm
  · rw [hm, f.unset]
    exact h
  · rw [hm]
    exact marksAfter_nodup _ h

end

/-- Every step that answers a next state, whatever it is, keeps what `StepFrame` says. -/
theorem step_frame {s t : State} (h : step s = .next t) : StepFrame s t := by
  obtain ⟨-, rfl⟩ | ⟨-, s', rfl, ⟨-, rfl⟩ | ⟨-, -, ha⟩ | ⟨-, -, -, rfl⟩ | ⟨-, -, -, d, u, -, hu, ht, hm⟩⟩ := step_cases h
  · exact stepFrame_warmReset s
  · exact (stepFrame_latchNmi s _).nmiAck
  · obtain ⟨n, target, rfl⟩ := State.intAck_next ha
    exact (stepFrame_latchNmi s _).enterHandler ..
  · exact (stepFrame_latchNmi s _).haltTick
  · exact (exec_frame _ _ _ hu).stepFrame ht (hm.imp And.right And.right)

/-! ### The invariant -/

section
variable {s t : State}

/-- An event dated now ends a history that holds nothing later (R56, R470). -/
theorem StepFrame.log_ordered (f : StepFrame s t) (hpast : ∀ e ∈ s.ioLog, e.time ≤ s.clock)
    (hrise : s.ioLog.Pairwise (fun e f => e.time ≤ f.time)) :
    (∀ e ∈ t.ioLog, e.time ≤ t.clock) ∧ t.ioLog.Pairwise (fun e f => e.time ≤ f.time) := by
  have hc := f.clock
  rcases f.log with hl | ⟨e, he, hl⟩
  · rw [hl]
    exact ⟨fun e he => (hpast e he).trans hc, hrise⟩
  · have hlast : ∀ x ∈ s.ioLog, x.time ≤ e.time := by rwa [he]
    rw [hl]
    refine ⟨fun x hx => ?_, List.pairwise_append.mpr ⟨hrise, List.pairwise_singleton _ _, by simpa using hlast⟩⟩
    rcases List.mem_append.mp hx with hx | hx
    · exact (hpast x hx).trans hc
    · rw [List.mem_singleton.mp hx, he]
      exact hc

/-- The controller's canonical form speaks of breakpoints, watchpoints and `next_id` alone (R560). -/
theorem StepFrame.dbg_ok (f : StepFrame s t) (h : Dbg.Ok s.dbg) : Dbg.Ok t.dbg := by
  unfold Dbg.Ok
  rw [f.bps, f.wps, f.nextId]
  exact h

/-- What every step keeps includes each part of the invariant. -/
theorem StepFrame.inv (f : StepFrame s t) (h : s.Inv) : t.Inv := by
  obtain ⟨hmem, hdbg, hpast, hrise, hunset⟩ := h
  obtain ⟨-, hwf, -⟩ := f.keeps
  obtain ⟨hpast', hrise'⟩ := f.log_ordered hpast hrise
  exact ⟨hwf hmem, f.dbg_ok hdbg, hpast', hrise', f.unset hunset⟩

end

/-- Settles O3: the frame of every step (`step_frame`) carries the invariant over. -/
theorem everyStepKeepsTheStateInvariant : Obligations.EveryStepKeepsTheStateInvariant :=
  fun _ _ hs h => (step_frame h).inv hs

/-- Settles O4: the frame of every step names ROM_REGION, the parameters, the controller's sets and the clock. -/
theorem noStepChangesRomOrParametersOrBreakpoints : Obligations.NoStepChangesRomOrParametersOrBreakpoints := by
  intro s t h
  have f := step_frame h
  obtain ⟨hcfg, -, hrom⟩ := f.keeps
  exact ⟨hrom, hcfg, f.bps, f.wps, f.nextId, f.clock⟩

/-! ### Reading back what was written -/

/-- A write into ROM_REGION has no effect at all (R106). -/
theorem State.memWrite_of_inRom {s : State} {a : Word} (h : s.inRom a = true) (v : Byte) : s.memWrite a v = s := by
  simp [State.memWrite, h]

/-- A Word stored outside ROM_REGION reads back (R101, R103): no address is its own successor modulo 2^16. -/
theorem StoresWord.memRead16 {s t : State} {a w : Word} (h : StoresWord s t a w) (hl : s.inRom a = false)
    (hh : s.inRom (a + 1) = false) : t.memRead16 a = w := by
  have hne : ¬(a + 1 = a ∧ s.inRom a = false) := by simp
  have hlow : t.memRead a = lo w := by rw [h, if_pos ⟨rfl, hl⟩, lo_eq]
  have hhigh : t.memRead (a + 1) = hi w := by rw [h, if_neg hne, if_pos ⟨rfl, hh⟩, hi_eq]
  rw [State.memRead16, hlow, hhigh, join_hi_lo]

/-- Settles O8: the laws of `memWrite` and `memWrite16`, and the read at 0xFFFF, whose successor is 0x0000. -/
theorem memoryReadsSeeTheLatestWrite : Obligations.MemoryReadsSeeTheLatestWrite := by
  intro s a w v
  have hstore := storesWord_memWrite16 s a w
  exact ⟨storesByte_memWrite s a v, s.memWrite_eq a v, fun h => State.memWrite_of_inRom h v, s.memRead16_eq a, hstore,
    hstore.memRead16, s.memRead16_eq 0xFFFF⟩

end Sys2Proof.Machine

/-!
SUPPORT. The 8-bit load family (40_load8.md): what an instruction leaves whose body is one write, of a register, of a byte of memory,
or of A with the flags of the byte moved; with it the statements O24, O25 and O26 settled.
-/

namespace Sys2Proof.Machine

section
variable (s : State) (length m1 n : Nat)

/-! ### The indexed operand after the fetch

Every other operand reads after the fetch as before it by definition: the fetch moves PC and R only (R521). -/

/-- The indexed byte the body reads or writes is at the address in numbers (R145). -/
@[simp] theorem State.idxAddr_fetch (x : Idx) (d : Byte) : (s.fetch length m1).idxAddr x d = s.indexedAddr x d :=
  s.idxAddr_eq x d

@[simp] theorem State.idxByte_fetch (x : Idx) (d : Byte) :
    (s.fetch length m1).idxByte x d = s.memRead (s.indexedAddr x d) :=
  congrArg s.memRead (s.idxAddr_fetch length m1 x d)

/-! ### A body that writes one register -/

/-- A body that writes a register of table r: the write and the ends of the step touch different fields (R521). -/
theorem State.done_setReg8 (k : Reg8) (v : Byte) :
    ((s.fetch length m1).setReg8 k v).done n = .next ((s.advance length m1 n).setReg8 k v) := by
  rw [State.advance_def]
  cases k <;> rfl

/-- A body that writes a half of an index register (R48, R521). -/
theorem State.done_setHalf (x : Idx) (p : Half) (v : Byte) :
    ((s.fetch length m1).setHalf x p v).done n = .next ((s.advance length m1 n).setHalf x p v) := by
  rw [State.advance_def]
  cases p <;> cases x <;> rfl

/-- A body that writes an entry of table r' (R218, R521). -/
theorem State.done_setXReg8 (x : Idx) (k : XReg8) (v : Byte) :
    ((s.fetch length m1).setXReg8 x k v).done n = .next ((s.advance length m1 n).setXReg8 x k v) := by
  cases k
  case xh | xl => exact s.done_setHalf ..
  all_goals rw [State.advance_def]; rfl

end

/-- Settles O24: each body is one register write, which commutes with the ends of the step. -/
theorem byteLoadsWriteOneRegister : Obligations.ByteLoadsWriteOneRegister := by
  intro s
  refine ⟨fun y z => s.done_setReg8 1 1 4 y (s.reg8 z), fun r n => s.done_setReg8 2 1 7 r n,
    fun r => s.done_setReg8 1 1 7 r (s.memRead s.hl), fun x r d => ?_, s.done_setReg8 1 1 7 .a (s.memRead s.bc),
    s.done_setReg8 1 1 7 .a (s.memRead s.de), fun nn => s.done_setReg8 3 1 13 .a (s.memRead nn),
    fun hs => ⟨fun x y z => ?_, fun x p n => ?_⟩⟩
  · rw [← s.idxByte_fetch 3 2]
    exact s.done_setReg8 3 2 19 r ((s.fetch 3 2).idxByte x d)
  · exact (State.undocumented_silicon hs _ _).trans (s.done_setXReg8 2 2 8 x y (s.xreg8 x z))
  · exact (State.undocumented_silicon hs _ _).trans (s.done_setHalf 3 2 11 x p n)

/-! ### A body that writes one byte of memory -/

/-- An instruction whose body is `MemWrite(a, 1, v)` stores that byte; the ends of the step move the rest (R100, R106, R521). -/
theorem completes_memWrite {i : Instr} {s : State} {length m1 n : Nat} {a : Word} {v : Byte}
    (h : exec i s = ((s.fetch length m1).memWrite a v).done n) :
    Completes i s fun t => t = { s.advance length m1 n with mem := t.mem } ∧ StoresByte s t a v := by
  refine ⟨_, h, ?_, (storesByte_memWrite (s.fetch length m1) a v).of_eq rfl rfl rfl⟩
  rw [State.advance_def, State.memWrite_def]
  rfl

/-- Settles O25: each body is one `memWrite` at the address in numbers. -/
theorem byteStoresWriteOneByteOfMemory : Obligations.ByteStoresWriteOneByteOfMemory := by
  intro s
  refine ⟨fun r => completes_memWrite rfl, fun n => completes_memWrite rfl, fun x d r => ?_, fun x d n => ?_,
    completes_memWrite rfl, completes_memWrite rfl, fun nn => completes_memWrite rfl⟩
  · rw [← s.idxAddr_fetch 3 2]
    exact completes_memWrite rfl
  · rw [← s.idxAddr_fetch 4 2]
    exact completes_memWrite rfl

/-! ### A body that moves a byte into A with its flags -/

/-- LD A,I and LD A,R differ only in the byte `v` moved: A becomes it, and F follows it, with P/V given (R214, R215). -/
theorem completes_moveToA {i : Instr} {s : State} {v : Byte} {pv : Bool}
    (h : exec i s = { (s.fetch 2 2).moveFlags v pv with a := v }.done 9) :
    Completes i s fun t => t = { s.advance 2 2 9 with a := v, f := t.f, draws := t.draws } ∧
      FlagsFollow s t (resultFlags v false pv false (s.flag .c)) flagsYX [] := by
  refine ⟨_, h, ?_, State.moveFlags_follow (u := s.fetch 2 2) v pv rfl rfl rfl⟩
  rw [State.advance_def]
  rfl

/-- R as the body sees it, after the instruction's own increments, is R as the step leaves it (R52, R215). -/
theorem State.fetch_r_eq_advance_r (s : State) (length m1 n : Nat) : (s.fetch length m1).r = (s.advance length m1 n).r := by
  rw [State.advance_def]
  rfl

/-- Settles O26: the reads are `completes_moveToA`, and the writes set I or R after the increments. -/
theorem interruptAndRefreshRegisterLoads : Obligations.InterruptAndRefreshRegisterLoads := by
  intro s
  refine ⟨completes_moveToA rfl, ?_, ?_, ?_⟩
  · rw [← s.fetch_r_eq_advance_r]
    exact completes_moveToA rfl
  all_goals rw [State.advance_def]; rfl

end Sys2Proof.Machine

/-!
SUPPORT. The 16-bit load and exchange family (41_load16_exchange.md): how a write of a pair, of an index register or of SP passes the
end of a step, and what a body leaves that stores a Word, pushes one, or swaps one with the top of the stack; with them the statements
O27, O28, O29, O30 and O32 settled.
-/

namespace Sys2Proof.Machine

/-! ### A register written before the end of a step

The end of a step moves the clock and the EI shadow only (R521), so a write before it is the same write after it. -/

section
variable {u v : State} {n : Nat} (h : u.done n = .next v)
include h

theorem State.done_setRP (p : RP) (w : Word) : (u.setRP p w).done n = .next (v.setRP p w) := by
  cases h
  cases p <;> rfl

theorem State.done_setRP2 (p : RP2) (w : Word) : (u.setRP2 p w).done n = .next (v.setRP2 p w) := by
  cases h
  cases p <;> rfl

theorem State.done_setIdx (x : Idx) (w : Word) : (u.setIdx x w).done n = .next (v.setIdx x w) := by
  cases h
  cases x <;> rfl

theorem State.done_setSP (w : Word) : { u with sp := w }.done n = .next { v with sp := w } := by
  cases h
  rfl

end

/-- Settles O27: each body is one register write (`done_setRP`, `done_setIdx`, `done_setSP`); a Word in memory by `memRead16_eq`. -/
theorem wordLoadsWriteOnePair : Obligations.WordLoadsWriteOnePair := by
  intro s
  refine ⟨State.done_setRP (s.done_fetch 3 1 10), State.done_setIdx (s.done_fetch 4 2 14), fun nn => ?_, fun dd nn => ?_,
    fun x nn => ?_, State.done_setSP (s.done_fetch 1 1 6) s.hl, fun x => State.done_setSP (s.done_fetch 2 2 10) (s.idx x)⟩
  all_goals rw [← s.memRead16_eq]
  · exact State.done_setRP (s.done_fetch 3 1 16) .hl (s.memRead16 nn)
  · exact State.done_setRP (s.done_fetch 4 2 20) dd (s.memRead16 nn)
  · exact State.done_setIdx (s.done_fetch 4 2 20) x (s.memRead16 nn)

/-! ### A body that stores a Word -/

section
variable {s : State} {length m1 n : Nat}

/-- `memWrite16` changes memory only (R101). -/
theorem State.memWrite16_eq (s : State) (a w : Word) : s.memWrite16 a w = { s with mem := (s.memWrite16 a w).mem } := by
  simp only [State.memWrite16, State.memWrite_def]

/-- An instruction whose body is `MemWrite(a, 2, w)` stores that Word; the ends of the step move the rest (R101, R521). -/
theorem completes_memWrite16 {i : Instr} {a w : Word} (h : exec i s = ((s.fetch length m1).memWrite16 a w).done n) :
    Completes i s fun t => t = { s.advance length m1 n with mem := t.mem } ∧ StoresWord s t a w := by
  refine ⟨_, h, ?_, (storesWord_memWrite16 (s.fetch length m1) a w).of_eq rfl rfl rfl⟩
  rw [State.advance_def, State.memWrite16_eq]
  rfl

/-- An instruction whose body is `push(w)` stores that Word below SP, which falls by 2 (R9, R521). -/
theorem completes_push {i : Instr} {w : Word} (h : exec i s = ((s.fetch length m1).push w).done n) :
    Completes i s fun t => t = { s.advance length m1 n with sp := s.sp - 2, mem := t.mem } ∧ StoresWord s t (s.sp - 2) w := by
  refine ⟨_, h, ?_, (storesWord_push (s.fetch length m1) w).of_eq rfl rfl rfl⟩
  rw [State.advance_def, State.push_eq]
  rfl

end

/-- Settles O28: each body is one `memWrite16`. -/
theorem wordStoresWriteTwoBytesOfMemory : Obligations.WordStoresWriteTwoBytesOfMemory :=
  fun _ => ⟨fun _ => completes_memWrite16 rfl, fun _ _ => completes_memWrite16 rfl, fun _ _ => completes_memWrite16 rfl⟩

/-- Settles O29: each body is one `push`. -/
theorem pushStoresBelowTheStackPointer : Obligations.PushStoresBelowTheStackPointer :=
  fun _ => ⟨fun _ => completes_push rfl, fun _ => completes_push rfl⟩

/-! ### The stack read back -/

/-- POP qq loads the Word at SP, which rises by 2 (R9, R252). -/
theorem exec_popQq (s : State) (qq : RP2) :
    exec (.popQq qq) s = .next ({ s.advance 1 1 10 with sp := s.sp + 2 }.setRP2 qq (s.wordAt s.sp)) := by
  rw [← s.memRead16_eq]
  exact State.done_setRP2 (State.done_setSP (s.done_fetch 1 1 10) (s.sp + 2)) qq (s.memRead16 s.sp)

/-- POP IX loads the Word at SP, which rises by 2 (R9, R253). -/
theorem exec_popIx (s : State) (x : Idx) :
    exec (.popIx x) s = .next ({ s.advance 2 2 14 with sp := s.sp + 2 }.setIdx x (s.wordAt s.sp)) := by
  rw [← s.memRead16_eq]
  exact State.done_setIdx (State.done_setSP (s.done_fetch 2 2 14) (s.sp + 2)) x (s.memRead16 s.sp)

/-- After a PUSH onto a writable stack, SP points at the Word pushed (R9, R250). -/
theorem wordAt_sp_of_pushQq {s t : State} {qq : RP2} (hhigh : s.inRom (s.sp - 1) = false)
    (hlow : s.inRom (s.sp - 2) = false) (h : exec (.pushQq qq) s = .next t) :
    t.sp = s.sp - 2 ∧ t.wordAt t.sp = s.rp2 qq := by
  obtain ⟨_, hexec, ht, hstore⟩ := completes_push (i := .pushQq qq) (s := s) rfl
  cases hexec.symm.trans h
  have hsp : t.sp = s.sp - 2 := congrArg State.sp ht
  have hnext : s.sp - 2 + 1 = s.sp - 1 := by bv_omega
  refine ⟨hsp, ?_⟩
  rw [hsp, ← State.memRead16_eq]
  exact hstore.memRead16 hlow (hnext ▸ hhigh)

/-- Settles O30: a POP by `exec_popQq` and `exec_popIx`; after a PUSH it finds the Word pushed (`wordAt_sp_of_pushQq`). -/
theorem popLoadsFromTheStackPointer : Obligations.PopLoadsFromTheStackPointer := by
  intro s
  refine ⟨exec_popQq s, exec_popIx s, fun t qq rr hhigh hlow hpush => ⟨_, exec_popQq t rr, ?_, ?_⟩⟩
  all_goals obtain ⟨hsp, hword⟩ := wordAt_sp_of_pushQq hhigh hlow hpush
  · rw [rp2_setRP2, hword]
  · rw [State.setRP2_sp, hsp]
    bv_omega

/-! ### Exchanges -/

/-- `storeTop` changes memory only (R263). -/
theorem State.storeTop_eq (s : State) (w : Word) : s.storeTop w = { s with mem := (s.storeTop w).mem } := by
  simp only [State.storeTop, State.memWrite_def]

/-- The end of a step whose body has stored at the top of the stack (R263, R521). -/
theorem State.done_storeTop (s : State) (length m1 n : Nat) (w : Word) :
    ((s.fetch length m1).storeTop w).done n =
      .next { s.advance length m1 n with mem := ((s.fetch length m1).storeTop w).mem } := by
  rw [State.advance_def, State.storeTop_eq]
  rfl

/-- Settles O32: three bodies are one update of registers; the other two store the register at the top of the stack
(`storesWord_storeTop`) and write the Word that stood there into it. -/
theorem exchangesSwapTheirOperands : Obligations.ExchangesSwapTheirOperands := by
  intro s
  have hpop : s.memRead16 s.sp = s.wordAt s.sp := s.memRead16_eq s.sp
  refine ⟨?_, ?_, ?_, ?_, fun x => ?_⟩
  · rw [State.advance_def]
    rfl
  · rw [State.advance_def]
    rfl
  · rw [State.advance_def]
    rfl
  · refine ⟨_, State.done_setRP (s.done_storeTop 1 1 19 s.hl) .hl (s.memRead16 s.sp), rfl, ?_, ?_⟩
    · exact (join_hi_lo _).trans hpop
    · exact (storesWord_storeTop (s.fetch 1 1) s.hl).of_eq rfl rfl rfl
  · refine ⟨_, State.done_setIdx (s.done_storeTop 2 2 23 (s.idx x)) x (s.memRead16 s.sp), ?_, ?_⟩
    · rw [hpop]
      cases x <;> rfl
    · exact (storesWord_storeTop (s.fetch 2 2) (s.idx x)).of_eq rfl rfl (State.setIdx_mem ..)

end Sys2Proof.Machine

/-!
SUPPORT. The block family (42_block.md): how an iteration ends, what the bodies of the transfers and the searches leave, and LDIR
iterated; with them the statements O33, O34 and O35 settled.
-/

namespace Sys2Proof.Machine

/-! ### The end of an iteration (R280) -/

/-- The state `endIteration` answers, as one update. -/
def State.afterIteration (u : State) (again : Bool) (draws : Byte) : State :=
  { u with
    f := if again then (u.repeatBlock draws).f else u.f
    draws := if again then u.draws + 1 else u.draws
    pc := if again then u.pc - 2 else u.pc
    clock := u.clock + (if again then 21 else 16)
    eiShadow := false }

theorem State.endIteration_eq (u : State) (again : Bool) (draws : Byte) :
    u.endIteration again draws = .next (u.afterIteration again draws) := by
  cases again <;> rfl

/-- An instruction whose step ends an iteration completes with `afterIteration`. -/
theorem completes_endIteration {i : Instr} {s u : State} {again : Bool} {draws : Byte} {P : State → Prop}
    (h : exec i s = u.endIteration again draws) (hP : P (u.afterIteration again draws)) : Completes i s P :=
  ⟨_, h.trans (u.endIteration_eq again draws), hP⟩

/-- The last iteration leaves F as the body does; one that repeats draws the flags of `draws` too. -/
theorem FlagsFollow.afterIteration {s u : State} {k : Flag → Bool} {us ds : List Flag} {draws : Byte}
    (h : FlagsFollow s u k us []) (hc : u.cfg = s.cfg) (hd : ∀ g, g ∉ ds → draws.getLsbD g.bit = false) (again : Bool) :
    FlagsFollow s (u.afterIteration again draws) k us (if again then ds else []) := by
  cases again
  · exact h
  · exact h.repeatBlock hc hd

/-- From `s` to `u` only what a block body may write changes: BC, DE, HL, F, memory, the port history and the inputs. -/
def WritesBlockFields (s u : State) : Prop :=
  u = { s with
    b := u.b, c := u.c, d := u.d, e := u.e, h := u.h, l := u.l, f := u.f, draws := u.draws, mem := u.mem, ioLog := u.ioLog,
    env := u.env }

/-- The two ends of a block form's step around its body: PC past the instruction on 16 T, or back at it on 21 T (R280, R521). -/
theorem WritesBlockFields.afterIteration {s u : State} (hu : WritesBlockFields (s.fetch 2 2) u) (again : Bool) (draws : Byte) :
    u.afterIteration again draws =
      { s.advance (if again then 0 else 2) 2 (if again then 21 else 16) with
        b := u.b, c := u.c, d := u.d, e := u.e, h := u.h, l := u.l, f := (u.afterIteration again draws).f,
        draws := (u.afterIteration again draws).draws, mem := u.mem, ioLog := u.ioLog, env := u.env } := by
  have back : s.pc + BitVec.ofNat 16 2 - 2 = s.pc + BitVec.ofNat 16 0 := by bv_omega
  rw [State.advance_def, State.afterIteration, hu]
  cases again
  · rfl
  · simp only [if_true, State.fetch_pc, back]
    rfl

/-- A counter is 0 after it has counted down exactly where it was 1 (R281, R285). -/
theorem sub_one_bne_zero (w : Word) : (w - 1 != 0) = decide (w ≠ 1) := by
  rw [Bool.eq_iff_iff, bne_iff_ne, decide_eq_true_eq]
  exact not_congr sub_eq_zero

/-- BC counted down is 0 exactly where it was 1. -/
theorem State.bc_setBC_sub_one_bne_zero (s : State) (w : Word) : ((s.setBC (w - 1)).bc != 0) = decide (w ≠ 1) :=
  (congrArg (· != 0) (join_hi_lo _)).trans (sub_one_bne_zero w)

/-! ### Block transfer (R281 to R284) -/

section
variable (s : State) (move : Word)

theorem writesBlockFields_blockLoad : WritesBlockFields s (s.blockLoad move) := by
  rw [WritesBlockFields, State.blockLoad, State.memWrite_def]
  rfl

theorem State.blockLoad_bc : (s.blockLoad move).bc = s.bc - 1 := by
  rw [State.blockLoad, State.memWrite_def]
  exact join_hi_lo _

theorem State.blockLoad_de : (s.blockLoad move).de = s.de + move := by
  rw [State.blockLoad, State.memWrite_def]
  exact join_hi_lo _

theorem State.blockLoad_hl : (s.blockLoad move).hl = s.hl + move := by
  rw [State.blockLoad, State.memWrite_def]
  exact join_hi_lo _

theorem State.blockLoad_bc_bne_zero : ((s.blockLoad move).bc != 0) = decide (s.bc ≠ 1) := by
  rw [State.blockLoad_bc]
  exact sub_one_bne_zero s.bc

/-- A transfer stores the byte at HL at DE (R281). -/
theorem storesByte_blockLoad : StoresByte s (s.blockLoad move) s.de (s.memRead s.hl) :=
  (storesByte_memWrite s s.de (s.memRead s.hl)).of_eq rfl rfl rfl

/-- The flags of a transfer (R281). -/
theorem flagsFollow_blockLoad : FlagsFollow s (s.blockLoad move) (copyFlags s) flagsYX [] := by
  rw [State.blockLoad, State.memWrite_def]
  refine flagsFollow_writeFlags rfl rfl (maskXY_documented ·) (zero_draws · _) fun g _ => ?_
  rw [FlagBits.getLsbD_pack]
  cases g
  case y => exact getLsbD_ofNat8 (s.a.toNat + (s.memRead s.hl).toNat) 1 (by decide)
  case x => exact getLsbD_ofNat8 (s.a.toNat + (s.memRead s.hl).toNat) 3 (by decide)
  case pv => exact State.bc_setBC_sub_one_bne_zero _ s.bc
  case s | z | h | n | c => rfl

end

/-- An iteration of a block transfer, repeating or not, after its fetch. -/
theorem completes_blockLoad {s : State} {i : Instr} {move : Word} {again : Bool}
    (h : exec i s = ((s.fetch 2 2).blockLoad move).endIteration again maskXY) :
    Completes i s fun t =>
      t = { s.advance (if again then 0 else 2) 2 (if again then 21 else 16) with
            b := t.b, c := t.c, d := t.d, e := t.e, h := t.h, l := t.l, f := t.f, draws := t.draws, mem := t.mem } ∧
      copiesOneByte s t move ∧ FlagsFollow s t (copyFlags s) flagsYX (if again then flagsYX else []) := by
  have hframe := (writesBlockFields_blockLoad (s.fetch 2 2) move).afterIteration again maskXY
  rw [State.blockLoad_ioLog, State.blockLoad_env] at hframe
  refine completes_endIteration h ⟨hframe, ⟨(s.fetch 2 2).blockLoad_hl move, (s.fetch 2 2).blockLoad_de move,
    (s.fetch 2 2).blockLoad_bc move, ?_⟩, ?_⟩
  · exact (storesByte_blockLoad (s.fetch 2 2) move).of_eq rfl rfl rfl
  · exact FlagsFollow.afterIteration (flagsFollow_blockLoad (s.fetch 2 2) move) (State.blockLoad_cfg ..) maskXY_documented again

/-- Settles O33: each form is one iteration of `blockLoad`, which repeats while BC is not 0 after it. -/
theorem blockTransferCopiesOneByteAndRepeats : Obligations.BlockTransferCopiesOneByteAndRepeats := by
  intro s
  have hagain : ∀ move, (((s.fetch 2 2).blockLoad move).bc != 0) = decide (s.bc ≠ 1) := (s.fetch 2 2).blockLoad_bc_bne_zero
  refine ⟨completes_blockLoad rfl, completes_blockLoad rfl, ?_, ?_⟩
  · rw [← hagain 1]
    exact completes_blockLoad rfl
  · rw [← hagain (-1)]
    exact completes_blockLoad rfl

/-! ### LDIR iterated (R282) -/

/-- One iteration of LDIR: it repeats where BC is not 1. -/
theorem exec_ldir (s : State) :
    ∃ t, exec .ldir s = .next t ∧ t.clock = s.clock + (if s.bc ≠ 1 then 21 else 16) ∧ t.bc = s.bc - 1 ∧
      t.pc = BitVec.ofNat 16 (s.pc.toNat + if s.bc ≠ 1 then 0 else 2) ∧ t.hl = s.hl + 1 ∧ t.de = s.de + 1 ∧
      t.flag .pv = decide (s.bc ≠ 1) := by
  obtain ⟨-, -, ⟨t, hexec, ht, ⟨hhl, hde, hbc, -⟩, hflags⟩, -⟩ := blockTransferCopiesOneByteAndRepeats s
  have hclock := congrArg State.clock ht
  have hpc := congrArg State.pc ht
  simp only [State.advance, decide_eq_true_eq] at hclock hpc
  refine ⟨t, hexec, hclock, hbc, hpc, hhl, hde, hflags .pv ?_ (.inr (by decide))⟩
  split <;> decide

theorem execTimes_succ {i : Instr} {s t : State} (h : exec i s = .next t) (n : Nat) :
    execTimes i (n + 1) s = execTimes i n t := by
  rw [execTimes, h]

/-- LDIR with BC = n + 1, by induction on the iterations that repeat. -/
theorem execTimes_ldir (n : Nat) (hn : n + 1 < 65536) (s : State) (h : s.bc = BitVec.ofNat 16 (n + 1)) :
    ∃ t, execTimes .ldir (n + 1) s = some t ∧ t.clock = s.clock + (21 * n + 16) ∧ t.bc = 0 ∧ t.pc = s.pc + 2 ∧
      t.hl = s.hl + BitVec.ofNat 16 (n + 1) ∧ t.de = s.de + BitVec.ofNat 16 (n + 1) ∧ t.flag .pv = false := by
  induction n generalizing s with
  | zero =>
    obtain ⟨u, hexec, hclock, hbc, hpc, hhl, hde, hpv⟩ := exec_ldir s
    have hlast : s.bc = 1 := h
    simp only [hlast, ne_eq, not_true_eq_false, if_false, decide_false] at hclock hbc hpc hpv
    refine ⟨u, ?_, hclock, hbc, ?_, hhl, hde, hpv⟩
    · exact execTimes_succ hexec 0
    · rw [hpc]; bv_omega
  | succ n ih =>
    obtain ⟨u, hexec, hclock, hbc, hpc, hhl, hde, -⟩ := exec_ldir s
    have hagain : s.bc ≠ 1 := by rw [h]; bv_omega
    have hcount : u.bc = BitVec.ofNat 16 (n + 1) := by rw [hbc, h]; bv_omega
    have hmove : 1 + BitVec.ofNat 16 (n + 1) = BitVec.ofNat 16 (n + 1 + 1) := by bv_omega
    simp only [hagain, ne_eq, not_false_eq_true, if_true, Nat.add_zero, BitVec.ofNat_toNat, BitVec.setWidth_eq] at hclock hpc
    obtain ⟨t, htimes, tclock, tbc, tpc, thl, tde, tpv⟩ := ih (by omega) u hcount
    refine ⟨t, ?_, ?_, tbc, ?_, ?_, ?_, tpv⟩
    · exact (execTimes_succ hexec (n + 1)).trans htimes
    · rw [tclock, hclock]; omega
    · rw [tpc, hpc]
    · rw [thl, hhl, BitVec.add_assoc, hmove]
    · rw [tde, hde, BitVec.add_assoc, hmove]

/-- Settles O35 by `execTimes_ldir`. -/
theorem ldirTakesOneIterationPerByte : Obligations.LdirTakesOneIterationPerByte := by
  intro s n hpos hlt hbc
  obtain ⟨m, rfl⟩ := Nat.exists_eq_add_of_le' hpos
  exact execTimes_ldir m hlt s hbc

/-! ### Block search (R285 to R288) -/

/-- The byte a search compares with zero, in numbers (R285). -/
theorem State.searchResult_eq (s : State) :
    s.searchResult = BitVec.ofNat 8 (256 + s.a.toNat - (s.memRead s.hl).toNat) := by
  rw [State.searchResult]
  bv_omega

/-- A search finds a match where the difference is 0 (R285). -/
theorem State.searchResult_beq_zero (s : State) : (s.searchResult == 0) = decide (s.a = s.memRead s.hl) := by
  rw [Bool.eq_iff_iff, beq_iff_eq, decide_eq_true_eq]
  exact sub_eq_zero

theorem State.searchResult_bne_zero (s : State) : (s.searchResult != 0) = decide (s.a ≠ s.memRead s.hl) := by
  rw [bne, State.searchResult_beq_zero, decide_not]

/-- The flags of a search (R285): Y and X are those of A - (HL) - H, which `sub8` computes. -/
theorem flagsFollow_blockSearch (s : State) (move : Word) :
    FlagsFollow s (s.blockSearch move) (searchFlags s) flagsYX [] := by
  refine flagsFollow_writeFlags rfl rfl (maskXY_documented ·) (zero_draws · _) fun g _ => ?_
  have hyx := sub8_fst s.a (s.memRead s.hl) (decide (low4 s.a < low4 (s.memRead s.hl)))
  rw [FlagBits.getLsbD_pack]
  cases g
  case s => exact (congrArg (BitVec.getLsbD · 7) s.searchResult_eq).trans (getLsbD_ofNat8 _ 7 (by decide))
  case y => exact (congrArg (BitVec.getLsbD · 1) hyx).trans (getLsbD_ofNat8 _ 1 (by decide))
  case x => exact (congrArg (BitVec.getLsbD · 3) hyx).trans (getLsbD_ofNat8 _ 3 (by decide))
  case z => exact s.searchResult_beq_zero
  case pv => exact State.bc_setBC_sub_one_bne_zero _ s.bc
  case h | n | c => rfl

/-- An iteration of a block search, repeating or not, after its fetch. -/
theorem completes_blockSearch {s : State} {i : Instr} {move : Word} {again : Bool}
    (h : exec i s = ((s.fetch 2 2).blockSearch move).endIteration again maskXY) :
    Completes i s fun t =>
      t = { s.advance (if again then 0 else 2) 2 (if again then 21 else 16) with
            b := t.b, c := t.c, h := t.h, l := t.l, f := t.f, draws := t.draws } ∧
      t.hl = s.hl + move ∧ t.bc = s.bc - 1 ∧ FlagsFollow s t (searchFlags s) flagsYX (if again then flagsYX else []) := by
  have hbody : WritesBlockFields (s.fetch 2 2) ((s.fetch 2 2).blockSearch move) := rfl
  exact completes_endIteration h ⟨hbody.afterIteration again maskXY, join_hi_lo _, join_hi_lo _,
    FlagsFollow.afterIteration (flagsFollow_blockSearch (s.fetch 2 2) move) rfl maskXY_documented again⟩

/-- Settles O34: each form is one iteration of `blockSearch`, which repeats while BC is not 0 after it and the byte differs. -/
theorem blockSearchComparesOneByteAndRepeats : Obligations.BlockSearchComparesOneByteAndRepeats := by
  intro s
  have hagain : ∀ move : Word, (((s.fetch 2 2).blockSearch move).bc != 0 && (s.fetch 2 2).searchResult != 0) =
      decide (s.bc ≠ 1 ∧ s.a ≠ s.memRead s.hl) := by
    intro move
    rw [State.searchResult_bne_zero, Bool.decide_and]
    exact congrArg (· && _) ((s.fetch 2 2).bc_setBC_sub_one_bne_zero s.bc)
  refine ⟨completes_blockSearch rfl, completes_blockSearch rfl, ?_, ?_⟩
  · rw [← hagain 1]
    exact completes_blockSearch rfl
  · rw [← hagain (-1)]
    exact completes_blockSearch rfl

end Sys2Proof.Machine

/-!
SUPPORT. The 8-bit arithmetic and logic family (43_alu8.md): what an operation of A leaves in each of its operand forms, and what a body
leaves that writes F and then steps a register, an index half or a byte of memory; with them the statements O36 to O40 settled.
-/

namespace Sys2Proof.Machine

/-! ### An operation of A (R305 to R313) -/

section
variable {s : State} {i : Instr} {length m1 n : Nat} {k : Flag → Bool}

/-- The five operand forms of an operation of A have one body, run on the operand between the two ends of a step (R305 to R313, R521);
so what holds of that body, whatever the operand and the cost, holds of each form. -/
theorem forEachAluForm_of_body {P : Instr → Nat → Nat → Nat → Byte → Prop} (body : State → Byte → State)
    {ofReg : Reg8 → Instr} {ofImm : Byte → Instr} {ofHl : Instr} {ofIndexed : Idx → Byte → Instr} {ofHalf : Idx → Half → Instr}
    {form : String}
    (hforms : (∀ r, exec (ofReg r) s = (body (s.fetch 1 1) (s.reg8 r)).done 4) ∧
      (∀ v, exec (ofImm v) s = (body (s.fetch 2 1) v).done 7) ∧
      exec ofHl s = (body (s.fetch 1 1) (s.memRead s.hl)).done 7 ∧
      (∀ x d, exec (ofIndexed x d) s = (body (s.fetch 3 2) ((s.fetch 3 2).idxByte x d)).done 19) ∧
      ∀ x p, exec (ofHalf x p) s = s.undocumented form ((body (s.fetch 2 2) (s.half x p)).done 8))
    (hP : ∀ {i length m1 n v}, exec i s = (body (s.fetch length m1) v).done n → P i length m1 n v) :
    forEachAluForm s P ofReg ofImm ofHl ofIndexed ofHalf := by
  obtain ⟨hreg, himm, hhl, hindexed, hhalf⟩ := hforms
  refine ⟨fun r => hP (hreg r), fun v => hP (himm v), hP hhl, fun x d => ?_, fun hs x p => ?_⟩
  · rw [← s.idxByte_fetch 3 2]
    exact hP (hindexed x d)
  · exact hP ((hhalf x p).trans (State.undocumented_silicon hs _ _))

/-- A body that writes A and F with a primitive's answer (R300 to R302, R521). -/
theorem writesAF_setAluA {p : Byte × Byte} {res : Byte} (h : exec i s = ((s.fetch length m1).setAluA p).done n)
    (hres : p.1 = res) (hk : ∀ g : Flag, p.2.getLsbD g.bit = k g) : writesAF s i length m1 n res k := by
  refine ⟨_, h, ?_, State.setAluA_follow (u := s.fetch length m1) p rfl rfl hk⟩
  rw [State.advance_def, ← hres]
  rfl

end

/-- Settles O36: both bodies are `add8`, with no carry in or with C. -/
theorem addAndAdcComputeSumAndFlags : Obligations.AddAndAdcComputeSumAndFlags := by
  intro s
  refine ⟨forEachAluForm_of_body State.aluAdd ⟨fun _ => rfl, fun _ => rfl, rfl, fun _ _ => rfl, fun _ _ => rfl⟩ fun h => ?_,
    forEachAluForm_of_body State.aluAdc ⟨fun _ => rfl, fun _ => rfl, rfl, fun _ _ => rfl, fun _ _ => rfl⟩ fun h => ?_⟩
  · exact writesAF_setAluA h rfl (add8_flags s.a _ false)
  · exact writesAF_setAluA h rfl (add8_flags s.a _ (s.flag .c))

/-- Settles O37: both bodies are `sub8`, with no borrow in or with C. -/
theorem subAndSbcComputeDifferenceAndFlags : Obligations.SubAndSbcComputeDifferenceAndFlags := by
  intro s
  refine ⟨forEachAluForm_of_body State.aluSub ⟨fun _ => rfl, fun _ => rfl, rfl, fun _ _ => rfl, fun _ _ => rfl⟩ fun h => ?_,
    forEachAluForm_of_body State.aluSbc ⟨fun _ => rfl, fun _ => rfl, rfl, fun _ _ => rfl, fun _ _ => rfl⟩ fun h => ?_⟩
  · exact writesAF_setAluA h (sub8_fst s.a _ false) (sub8_flags s.a _ false)
  · exact writesAF_setAluA h (sub8_fst s.a _ (s.flag .c)) (sub8_flags s.a _ (s.flag .c))

/-- Settles O38: the body is `sub8` with the result discarded, so it writes F only (`aluCp_follow`). -/
theorem compareSetsTheFlagsOfSubtraction : Obligations.CompareSetsTheFlagsOfSubtraction := by
  intro s
  refine forEachAluForm_of_body State.aluCp ⟨fun _ => rfl, fun _ => rfl, rfl, fun _ _ => rfl, fun _ _ => rfl⟩
    fun {_ length m1 _ v} h => ⟨_, h, ?_, State.aluCp_follow (u := s.fetch length m1) v rfl rfl rfl⟩
  rw [State.advance_def]
  rfl

/-- Settles O39: the three bodies differ in the bitwise operation and in H; the flags are `logicFlags` of the result. -/
theorem logicOperationsComputeBitsAndParity : Obligations.LogicOperationsComputeBitsAndParity := by
  intro s
  refine ⟨forEachAluForm_of_body State.aluAnd ⟨fun _ => rfl, fun _ => rfl, rfl, fun _ _ => rfl, fun _ _ => rfl⟩ fun h => ?_,
    forEachAluForm_of_body State.aluXor ⟨fun _ => rfl, fun _ => rfl, rfl, fun _ _ => rfl, fun _ _ => rfl⟩ fun h => ?_,
    forEachAluForm_of_body State.aluOr ⟨fun _ => rfl, fun _ => rfl, rfl, fun _ _ => rfl, fun _ _ => rfl⟩ fun h => ?_⟩
  · exact ⟨_, fun _ _ => BitVec.getLsbD_and, writesAF_setAluA h rfl (logicFlags_eq _ true)⟩
  · exact ⟨_, fun _ _ => BitVec.getLsbD_xor, writesAF_setAluA h rfl (logicFlags_eq _ false)⟩
  · exact ⟨_, fun _ _ => BitVec.getLsbD_or, writesAF_setAluA h rfl (logicFlags_eq _ false)⟩

/-! ### A body that writes F and then one operand -/

section
variable {s : State} {i : Instr} {length m1 n c : Nat} {k : Flag → Bool} {undoc drawn : List Flag} {f v res : Byte}
  (hv : v = res) (hF : ∀ t : State, t.f = f → FlagsFollow s t k undoc drawn)
include hv hF

/-- A body that writes F and a register of table r: the two writes touch different fields (R521). -/
theorem completes_flags_setReg8 {r : Reg8}
    (h : exec i s = ({ s.fetch length m1 with f := f, draws := c }.setReg8 r v).done n) :
    Completes i s fun t =>
      t = { (s.advance length m1 n).setReg8 r res with f := t.f, draws := t.draws } ∧ FlagsFollow s t k undoc drawn := by
  refine ⟨_, h, ?_, hF _ (State.setReg8_f ..)⟩
  rw [State.advance_def, hv]
  cases r <;> rfl

/-- A body that writes F and a half of an index register (R48, R521). -/
theorem completes_flags_setHalf {x : Idx} {p : Half}
    (h : exec i s = ({ s.fetch length m1 with f := f, draws := c }.setHalf x p v).done n) :
    Completes i s fun t =>
      t = { (s.advance length m1 n).setHalf x p res with f := t.f, draws := t.draws } ∧ FlagsFollow s t k undoc drawn := by
  refine ⟨_, h, ?_, hF _ (State.setHalf_f ..)⟩
  rw [State.advance_def, hv]
  cases x <;> cases p <;> rfl

/-- A body that writes F and one byte of memory (R100, R106, R521). -/
theorem completes_flags_memWrite {a : Word}
    (h : exec i s = ({ s.fetch length m1 with f := f, draws := c }.memWrite a v).done n) :
    Completes i s fun t =>
      t = { s.advance length m1 n with f := t.f, draws := t.draws, mem := t.mem } ∧ StoresByte s t a res ∧
        FlagsFollow s t k undoc drawn := by
  have hstore := storesByte_memWrite { s.fetch length m1 with f := f, draws := c } a v
  refine ⟨_, h, ?_, hv ▸ hstore.of_eq rfl rfl rfl, hF _ (State.memWrite_f ..)⟩
  rw [State.advance_def, State.memWrite_def]
  rfl

end

/-- Settles O40: each body writes F as `inc8` or `dec8` does, and then its operand. -/
theorem incAndDecStepTheirOperand : Obligations.IncAndDecStepTheirOperand := by
  intro s
  have hinc (v : Byte) (length m1 : Nat) (t : State) (hf : t.f = ((s.fetch length m1).incFlags v).f) :
      FlagsFollow s t (stepFlags s v true) flagsYX [] := State.incFlags_follow v hf rfl rfl
  have hdec (v : Byte) (length m1 : Nat) (t : State) (hf : t.f = ((s.fetch length m1).decFlags v).f) :
      FlagsFollow s t (stepFlags s v false) flagsYX [] := State.decFlags_follow v hf rfl rfl
  refine ⟨fun r => completes_flags_setReg8 (s.incResult_eq _) (hinc _ 1 1) rfl,
    fun r => completes_flags_setReg8 (s.decResult_eq _) (hdec _ 1 1) rfl,
    completes_flags_memWrite (s.incResult_eq _) (hinc _ 1 1) rfl,
    completes_flags_memWrite (s.decResult_eq _) (hdec _ 1 1) rfl, fun x d => ?_, fun x d => ?_, fun hs x p => ⟨?_, ?_⟩⟩
  · rw [← s.idxAddr_fetch 3 2]
    exact completes_flags_memWrite (s.incResult_eq _) (hinc _ 3 2) rfl
  · rw [← s.idxAddr_fetch 3 2]
    exact completes_flags_memWrite (s.decResult_eq _) (hdec _ 3 2) rfl
  · exact completes_flags_setHalf (s.incResult_eq _) (hinc _ 2 2) (State.undocumented_silicon hs _ _)
  · exact completes_flags_setHalf (s.decResult_eq _) (hdec _ 2 2) (State.undocumented_silicon hs _ _)

end Sys2Proof.Machine

/-!
SUPPORT. The CPU control family (44_cpu_control.md): DAA in numbers and on decimal digits, and what the bodies leave that draw Y and X
or write one control field; with them the statements O41 to O44 settled.
-/

namespace Sys2Proof.Machine

/-! ### DAA (R340) -/

section
variable (s : State)

theorem daaCorrection_le : daaCorrection s ≤ 0x66 := by
  unfold daaCorrection
  split <;> split <;> decide

/-- The result of `daa8` in numbers: the digits it sets with `|||` do not overlap, so the byte it adds or subtracts is their sum. -/
theorem daa8_fst :
    (daa8 s.a (s.flag .n) (s.flag .h) (s.flag .c)).1 =
      BitVec.ofNat 8 (if s.flag .n then s.a.toNat + 256 - daaCorrection s else s.a.toNat + daaCorrection s) := by
  have hbyte : (if s.flag .c || decide (s.a.toNat > 0x99)
        then (if s.flag .h || decide (low4 s.a > 9) then (0x06 : Byte) else 0x00) ||| 0x60
        else if s.flag .h || decide (low4 s.a > 9) then (0x06 : Byte) else 0x00) =
      BitVec.ofNat 8 (daaCorrection s) := by
    simp only [daaCorrection, low4, Bool.or_eq_true, decide_eq_true_eq, gt_iff_lt]
    split <;> split <;> rfl
  have hle := daaCorrection_le s
  simp only [daa8, hbyte]
  cases s.flag .n
  · show s.a + BitVec.ofNat 8 (daaCorrection s) = BitVec.ofNat 8 (s.a.toNat + daaCorrection s)
    bv_omega
  · show s.a - BitVec.ofNat 8 (daaCorrection s) = BitVec.ofNat 8 (s.a.toNat + 256 - daaCorrection s)
    bv_omega

/-- H and C after DAA. -/
theorem daa8_snd :
    (daa8 s.a (s.flag .n) (s.flag .h) (s.flag .c)).2 =
      (if s.flag .n then decide (s.flag .h = true ∧ s.a.toNat % 16 < 6) else decide (9 < s.a.toNat % 16),
        s.flag .c || decide (0x99 < s.a.toNat)) := by
  rw [daa8]
  cases s.flag .n
  · rfl
  · rw [Bool.decide_and, Bool.decide_eq_true]
    rfl

end

/-- Settles O41: A and the flags are those of `daa8`, in numbers. -/
theorem daaAddsOrSubtractsItsCorrection : Obligations.DaaAddsOrSubtractsItsCorrection := by
  intro s res half
  have hres : (daa8 s.a (s.flag .n) (s.flag .h) (s.flag .c)).1 = res := daa8_fst s
  have hbits : (daa8 s.a (s.flag .n) (s.flag .h) (s.flag .c)).2 = (half, s.flag .c || decide (0x99 < s.a.toNat)) := daa8_snd s
  refine writesAF_setAluA rfl hres fun g => (pack_resultFlags _ _ _ _ _ g).trans ?_
  rw [parity_eq]
  exact congrArg₂ (fun (v : Byte) (p : Bool × Bool) => resultFlags v p.1 (evenOnes v) (s.flag .n) p.2 g) hres hbits

/-! ### DAA on decimal digits -/

theorem bcd_toNat {n : Nat} (h : n < 100) : (bcd n).toNat = n / 10 * 16 + n % 10 := by
  rw [bcd, BitVec.toNat_ofNat]
  omega

/-- The next state of a form whose rule writes A and F, read off field by field. -/
theorem next_of_writesAF {s t : State} {i : Instr} {length m1 n : Nat} {res : Byte} {k : Flag → Bool}
    (hw : writesAF s i length m1 n res k) (h : exec i s = .next t) : t.a = res ∧ ∀ g, g ∉ flagsYX → t.flag g = k g := by
  obtain ⟨u, hu, hframe, hflags⟩ := hw
  obtain rfl : t = u := Host.Outcome.next.inj (h.symm.trans hu)
  exact ⟨congrArg State.a hframe, fun g hg => hflags g List.not_mem_nil (.inr hg)⟩

/-- A and C after DAA: C is set exactly where the correction has its 0x60 (R340). -/
theorem completes_daa (t : State) : Completes .daa t fun u =>
    u.a = BitVec.ofNat 8 (if t.flag .n then t.a.toNat + 256 - daaCorrection t else t.a.toNat + daaCorrection t) ∧
      u.flag .c = decide (t.flag .c = true ∨ 0x99 < t.a.toNat) := by
  obtain ⟨u, hu, hframe, hflags⟩ := daaAddsOrSubtractsItsCorrection t
  refine ⟨u, hu, congrArg State.a hframe, (hflags .c List.not_mem_nil (.inr (by decide))).trans ?_⟩
  rw [Bool.decide_or, Bool.decide_eq_true]
  rfl

section
variable {t : State} {m n : Nat} (hm : m < 100) (hn : n < 100)
include hm hn

/-- A sum of two decimal bytes is above 0x99 exactly where the numbers' sum has a third digit. -/
theorem bcd_add_gt : 0x99 < (bcd m).toNat + (bcd n).toNat ↔ 100 ≤ m + n := by
  rw [bcd_toNat hm, bcd_toNat hn]
  by_cases hlow : 10 ≤ m % 10 + n % 10 <;> omega

/-- Decimal bytes are ordered as their numbers. -/
theorem bcd_lt : (bcd m).toNat < (bcd n).toNat ↔ m < n := by
  rw [bcd_toNat hm, bcd_toNat hn]
  omega

/-- DAA after an addition corrects each digit that overflows ten: the low one where the low digits' sum is 10 or more, the high one
where the numbers' sum is 100 or more (R305, R340). -/
theorem completes_daa_of_add (ha : t.a = BitVec.ofNat 8 ((bcd m).toNat + (bcd n).toNat))
    (hflags : ∀ g, g ∉ flagsYX → t.flag g = addFlags (bcd m) (bcd n) false g) :
    Completes .daa t fun u => u.a = bcd ((m + n) % 100) ∧ u.flag .c = decide (100 ≤ m + n) := by
  have hmb := bcd_toNat hm
  have hnb := bcd_toNat hn
  have haNat : t.a.toNat = ((bcd m).toNat + (bcd n).toNat) % 256 := by rw [ha, BitVec.toNat_ofNat]
  have hN : t.flag .n = false := hflags .n (by decide)
  have hlow : (t.flag .h = true ∨ 9 < t.a.toNat % 16) ↔ 10 ≤ m % 10 + n % 10 := by
    rw [hflags .h (by decide), addFlags, decide_eq_true_eq, Bool.toNat_false]
    omega
  have hhigh : (t.flag .c = true ∨ 0x99 < t.a.toNat) ↔ 100 ≤ m + n := by
    rw [← bcd_add_gt hm hn, hflags .c (by decide), addFlags, decide_eq_true_eq, Bool.toNat_false]
    omega
  obtain ⟨u, hu, hres, hcarry⟩ := completes_daa t
  simp only [hN, Bool.false_eq_true, if_false, daaCorrection, hlow, hhigh] at hres hcarry
  refine ⟨u, hu, ?_, hcarry⟩
  rw [hres]
  apply BitVec.eq_of_toNat_eq
  rw [BitVec.toNat_ofNat, bcd_toNat (Nat.mod_lt _ (by decide))]
  split <;> split <;> omega

/-- DAA after a subtraction corrects each digit that borrows (R307, R340). -/
theorem completes_daa_of_sub (ha : t.a = BitVec.ofNat 8 (512 + (bcd m).toNat - (bcd n).toNat))
    (hflags : ∀ g, g ∉ flagsYX → t.flag g = subFlags (bcd m) (bcd n) false g) :
    Completes .daa t fun u => u.a = bcd ((m + 100 - n) % 100) ∧ u.flag .c = decide (m < n) := by
  have hmb := bcd_toNat hm
  have hnb := bcd_toNat hn
  have haNat : t.a.toNat = (512 + (bcd m).toNat - (bcd n).toNat) % 256 := by rw [ha, BitVec.toNat_ofNat]
  have hN : t.flag .n = true := hflags .n (by decide)
  have hlow : (t.flag .h = true ∨ 9 < t.a.toNat % 16) ↔ m % 10 < n % 10 := by
    rw [hflags .h (by decide), subFlags, decide_eq_true_eq, Bool.toNat_false]
    omega
  have hhigh : (t.flag .c = true ∨ 0x99 < t.a.toNat) ↔ m < n := by
    rw [← bcd_lt hm hn, hflags .c (by decide), subFlags, decide_eq_true_eq, Bool.toNat_false]
    omega
  obtain ⟨u, hu, hres, hcarry⟩ := completes_daa t
  simp only [hN, if_true, daaCorrection, hlow, hhigh] at hres hcarry
  refine ⟨u, hu, ?_, hcarry⟩
  rw [hres]
  apply BitVec.eq_of_toNat_eq
  rw [BitVec.toNat_ofNat, bcd_toNat (Nat.mod_lt _ (by decide))]
  split <;> split <;> omega

end

/-- Settles O42: what ADD A,n and SUB n leave (O36, O37) tells DAA which digits to correct. -/
theorem daaAfterAddOrSubIsDecimal : Obligations.DaaAfterAddOrSubIsDecimal := by
  intro s t m n hm hn hA
  obtain ⟨⟨-, haddN, -⟩, -⟩ := addAndAdcComputeSumAndFlags s
  obtain ⟨⟨-, hsubN, -⟩, -⟩ := subAndSbcComputeDifferenceAndFlags s
  refine ⟨fun h => ?_, fun h => ?_⟩
  · obtain ⟨ha, hflags⟩ := next_of_writesAF (haddN (bcd n)) h
    rw [hA] at ha hflags
    exact completes_daa_of_add hm hn ha hflags
  · obtain ⟨ha, hflags⟩ := next_of_writesAF (hsubN (bcd n)) h
    rw [hA] at ha hflags
    exact completes_daa_of_sub hm hn ha hflags

/-! ### CPL, NEG, CCF and SCF (R341 to R345) -/

theorem not_eq_ofNat8 (v : Byte) : ~~~v = BitVec.ofNat 8 (255 - v.toNat) := by
  bv_omega

/-- The difference NEG computes (R342). -/
theorem sub8_zero_fst (v : Byte) : (sub8 0 v false).1 = BitVec.ofNat 8 (256 - v.toNat) := by
  rw [sub8_fst]
  bv_omega

/-- The flags of `0 - v` (R342). -/
theorem subFlags_zero (v : Byte) (g : Flag) : subFlags 0 v false g = (match g with
    | .c => decide (v ≠ 0) | .pv => decide (v = 0x80) | .n => true | .h => decide (v.toNat % 16 ≠ 0)
    | g => resultFlags (BitVec.ofNat 8 (256 - v.toNat)) false false false false g) := by
  revert v
  cases g <;> decide

/-- CCF and SCF write F only, and draw Y and X (R344, R345). -/
theorem completes_drawXY {s : State} {i : Instr} {bits : FlagBits} {k : Flag → Bool}
    (h : exec i s = ((s.fetch 1 1).writeFlags 0 maskXY bits.pack).done 4) (hk : ∀ g, g ∉ flagsYX → bits.get g = k g) :
    Completes i s fun t => t = { s.advance 1 1 4 with f := t.f, draws := t.draws } ∧ FlagsFollow s t k [] flagsYX := by
  refine ⟨_, h, ?_, flagsFollow_writeFlags (u := s.fetch 1 1) rfl rfl (zero_draws · _) maskXY_documented fun g hg => ?_⟩
  · rw [State.advance_def]
    rfl
  · exact (bits.getLsbD_pack g).trans (hk g hg)

/-- A documented flag is one of the six that CCF and SCF give a value. -/
theorem forall_documented {P : Flag → Prop} (hs : P .s) (hz : P .z) (hh : P .h) (hpv : P .pv) (hn : P .n) (hc : P .c) :
    ∀ g, g ∉ flagsYX → P g := by
  intro g hg
  cases g
  case y | x => exact absurd hg (by decide)
  all_goals assumption

/-- Settles O43: CPL and NEG write A and F, the mirrors have NEG's body, and CCF and SCF are `completes_drawXY`. -/
theorem accumulatorAndCarryControl : Obligations.AccumulatorAndCarryControl := by
  intro s neg cpl
  refine ⟨writesAF_setAluA rfl (not_eq_ofNat8 s.a) fun g => ?_, writesAF_setAluA rfl (sub8_zero_fst s.a) fun g => ?_,
    fun hs y => State.undocumented_silicon hs _ _, completes_drawXY rfl ?_, completes_drawXY rfl ?_⟩
  · rw [FlagBits.getLsbD_pack, show cpl = ~~~s.a from (not_eq_ofNat8 s.a).symm]
    cases g
    case y | x => exact getLsbD_eq_bitOf ..
    all_goals rfl
  · exact (sub8_flags 0 s.a false g).trans (subFlags_zero s.a g)
  all_goals exact forall_documented rfl rfl rfl rfl rfl rfl

/-! ### The control fields (R346 to R356) -/

/-- Settles O44: a form without a body is `done_fetch`, and each of the others writes its control fields between the two ends of the
step. -/
theorem cpuControlInstructions : Obligations.CpuControlInstructions := by
  intro s
  refine ⟨s.done_fetch 1 1 4, fun _ => s.done_fetch 2 2 8, ?_, ?_, ?_, ?_, ?_, ?_, fun hs y => ?_, s.done_fetch 1 1 4,
    s.done_fetch 1 1 4, s.done_fetch 1 1 4, s.done_fetch 1 1 4, fun _ => s.done_fetch 2 2 8⟩
  all_goals rw [State.advance_def]
  case refine_7 => exact State.undocumented_silicon hs _ _
  all_goals rfl

end Sys2Proof.Machine

/-!
SUPPORT. The 16-bit arithmetic family (45_alu16.md): what a body leaves that writes F and then HL or an index register, and a Word one
more or less in numbers; with them the statements O45 to O47 settled.
-/

namespace Sys2Proof.Machine

/-! ### A body that writes F and then HL or an index register (R371 to R374) -/

section
variable {s : State} {i : Instr} {length m1 n : Nat} {p : Word × Byte} {res : Word} {k : Flag → Bool}
  (hk : ∀ g : Flag, p.2.getLsbD g.bit = k g)
include hk

/-- A 16-bit primitive's flags, written after the fetch: Y and X are undocumented and no bit is drawn (R10, R370). -/
theorem flagsFollow_writeFlags_fetch {t : State} (hf : t.f = ((s.fetch length m1).writeFlags maskXY 0 p.2).f) :
    FlagsFollow s t k flagsYX [] :=
  flagsFollow_writeFlags hf rfl maskXY_documented (zero_draws · _) fun g _ => hk g

variable (hres : p.1 = res)
include hres

/-- A body that writes HL and F with a 16-bit primitive's answer (R370, R521). -/
theorem completes_setAluHL (h : exec i s = ((s.fetch length m1).setAluHL p).done n) :
    Completes i s fun t =>
      t = { (s.advance length m1 n).setRP .hl res with f := t.f, draws := t.draws } ∧ FlagsFollow s t k flagsYX [] := by
  refine ⟨_, h, ?_, flagsFollow_writeFlags_fetch hk rfl⟩
  rw [State.advance_def, ← hres]
  rfl

/-- A body that writes an index register and F with a 16-bit primitive's answer (R372, R521). -/
theorem completes_writeFlags_setIdx {x : Idx}
    (h : exec i s = (((s.fetch length m1).writeFlags maskXY 0 p.2).setIdx x p.1).done n) :
    Completes i s fun t =>
      t = { (s.advance length m1 n).setIdx x res with f := t.f, draws := t.draws } ∧ FlagsFollow s t k flagsYX [] := by
  refine ⟨_, h, ?_, flagsFollow_writeFlags_fetch hk (State.setIdx_f _ x p.1)⟩
  rw [State.advance_def, ← hres]
  cases x <;> rfl

end

/-- Settles O45: both forms write the answer of `add16`, one to HL and the other to the index register. -/
theorem wideAddComputesSumAndCarries : Obligations.WideAddComputesSumAndCarries := by
  intro s
  refine ⟨fun ss => completes_setAluHL (add16_flags s s.hl (s.rp ss)) (add16_fst s.hl (s.rp ss) s.f) rfl, fun x pp => ?_⟩
  exact completes_writeFlags_setIdx (add16_flags s (s.idx x) (s.xrp x pp)) (add16_fst (s.idx x) (s.xrp x pp) s.f) rfl

/-- Settles O46: the bodies are `adc16` and `sbc16` of HL, the pair and C. -/
theorem wideAdcAndSbcComputeAllFlags : Obligations.WideAdcAndSbcComputeAllFlags := by
  intro s ss
  exact ⟨completes_setAluHL (adc16_flags s.hl (s.rp ss) (s.flag .c)) (adc16_fst s.hl (s.rp ss) (s.flag .c)) rfl,
    completes_setAluHL (sbc16_flags s.hl (s.rp ss) (s.flag .c)) (sbc16_fst s.hl (s.rp ss) (s.flag .c)) rfl⟩

/-! ### A Word one more or less (R375 to R378) -/

theorem add_one_eq_ofNat16 (w : Word) : w + 1 = BitVec.ofNat 16 (w.toNat + 1) := by
  bv_omega

theorem sub_one_eq_ofNat16 (w : Word) : w - 1 = BitVec.ofNat 16 (w.toNat + 65535) := by
  bv_omega

/-- Settles O47: each body is one register write (`done_setRP`, `done_setIdx`), and the encodings are read off form by form. -/
theorem wideIncAndDecWrapAndKeepFlags : Obligations.WideIncAndDecWrapAndKeepFlags := by
  intro s
  refine ⟨fun ss => ?_, fun ss => ?_, fun x => ?_, fun x => ?_, fun ss => ?_, fun ss => ?_, fun x => ?_, fun x => ?_⟩
  · rw [← add_one_eq_ofNat16]
    exact State.done_setRP (s.done_fetch 1 1 6) ss (s.rp ss + 1)
  · rw [← sub_one_eq_ofNat16]
    exact State.done_setRP (s.done_fetch 1 1 6) ss (s.rp ss - 1)
  · rw [← add_one_eq_ofNat16]
    exact State.done_setIdx (s.done_fetch 2 2 10) x (s.idx x + 1)
  · rw [← sub_one_eq_ofNat16]
    exact State.done_setIdx (s.done_fetch 2 2 10) x (s.idx x - 1)
  case refine_5 | refine_6 => cases ss <;> rfl
  case refine_7 | refine_8 => cases x <;> rfl

end Sys2Proof.Machine

/-!
SUPPORT. The rotate and shift family (46_rotate_shift.md): what a body leaves that writes F, a byte and a register, the bodies
of the rotates and shifts by operand form, and a Byte put together from two digits; with them the statements O48 to O50 settled.
-/

namespace Sys2Proof.Machine

/-! ### The accumulator rotates (R391 to R394) -/

/-- Settles O48: the four bodies are `rotA`, whose flags `rotA_follow` gives. -/
theorem accumulatorRotatesKeepSignZeroParity : Obligations.AccumulatorRotatesKeepSignZeroParity := by
  intro s rotates
  have of_rotA {i : Instr} {k : Rot} (h : exec i s = ((s.fetch 1 1).rotA k).done 4) : rotates i k := by
    refine ⟨_, h, ?_, State.rotA_follow (u := s.fetch 1 1) k rfl rfl rfl rfl⟩
    rw [State.advance_def, ← rot8_eq]
    rfl
  exact ⟨of_rotA rfl, of_rotA rfl, of_rotA rfl, of_rotA rfl⟩

/-! ### A body that writes F, a byte of memory and a register (R403 to R405) -/

/-- The three writes touch different fields, whatever the two bytes are (R100, R106, R521). -/
theorem completes_flags_memWrite_setReg8 {s : State} {i : Instr} {length m1 n c : Nat} {k : Flag → Bool} {undoc drawn : List Flag}
    {f v stored w res : Byte} {a : Word} {r : Reg8} (hv : v = stored) (hw : w = res)
    (hF : ∀ t : State, t.f = f → FlagsFollow s t k undoc drawn)
    (h : exec i s = (({ s.fetch length m1 with f := f, draws := c }.memWrite a v).setReg8 r w).done n) :
    Completes i s fun t =>
      t = { (s.advance length m1 n).setReg8 r res with f := t.f, draws := t.draws, mem := t.mem } ∧ StoresByte s t a stored ∧
        FlagsFollow s t k undoc drawn := by
  have hstore := storesByte_memWrite { s.fetch length m1 with f := f, draws := c } a v
  refine ⟨_, h, ?_, hv ▸ hstore.of_eq rfl rfl (State.setReg8_mem ..), hF _ ((State.setReg8_f ..).trans (State.memWrite_f ..))⟩
  rw [State.advance_def, State.memWrite_def, hw]
  cases r <;> rfl

/-! ### The rotates and shifts (R395 to R402, R405) -/

/-- The body of a rotate or shift of a register. -/
def State.rotReg (s : State) (k : Rot) (r : Reg8) : State :=
  (s.rotFlags k (s.reg8 r)).setReg8 r (s.rotResult k (s.reg8 r))

/-- The body of a rotate or shift of the byte at an address. -/
def State.rotMem (s : State) (k : Rot) (a : Word) : State :=
  (s.rotFlags k (s.memRead a)).memWrite a (s.rotResult k (s.memRead a))

/-- The form with a register copy has the body in memory and then the copy (R405). -/
theorem State.rotCopy_eq (s : State) (k : Rot) (x : Idx) (d : Byte) (r : Reg8) :
    s.rotCopy k x d r = (s.rotMem k (s.idxAddr x d)).setReg8 r (s.rotResult k (s.memRead (s.idxAddr x d))) := rfl

/-- `rotResult` in numbers (R390). -/
theorem State.rotResult_eq (s : State) (k : Rot) (v : Byte) : s.rotResult k v = (rotated k v (s.flag .c)).1 :=
  congrArg Prod.fst (rot8_eq k v (s.flag .c))

/-- Settles O49: every form has one of the bodies `rotReg`, `rotMem` and `rotCopy`, and each of these writes F as `rotFlags` does and
then its operand. -/
theorem rotatesAndShiftsComputeResultAndFlags : Obligations.RotatesAndShiftsComputeResultAndFlags := by
  intro s follows inRegister inPlace copies forms copyForms
  have hflags (k : Rot) (v : Byte) (length : Nat) (t : State) (hf : t.f = ((s.fetch length 2).rotFlags k v).f) : follows t k v :=
    State.rotFlags_follow k v hf rfl rfl
  have hregister {k : Rot} {r : Reg8} {i : Instr} (h : exec i s = ((s.fetch 2 2).rotReg k r).done 8) : inRegister k r i :=
    completes_flags_setReg8 (s.rotResult_eq k _) (hflags k _ 2) h
  have hplace {k : Rot} {i : Instr} {length n : Nat} {a : Word} (h : exec i s = ((s.fetch length 2).rotMem k a).done n) :
      inPlace k i length n a :=
    completes_flags_memWrite (s.rotResult_eq k _) (hflags k _ length) h
  have hcopies {k : Rot} {i : Instr} {x : Idx} {d : Byte} {r : Reg8} (h : exec i s = ((s.fetch 4 2).rotCopy k x d r).done 23) :
      copies k i (s.indexedAddr x d) r := by
    rw [State.rotCopy_eq, s.idxAddr_fetch 4 2] at h
    exact completes_flags_memWrite_setReg8 (s.rotResult_eq k _) (s.rotResult_eq k _) (hflags k _ 4) h
  have hforms {k : Rot} {ofReg : Reg8 → Instr} {ofHl : Instr} {ofIndexed : Idx → Byte → Instr}
      (hreg : ∀ r, exec (ofReg r) s = ((s.fetch 2 2).rotReg k r).done 8)
      (hhl : exec ofHl s = ((s.fetch 2 2).rotMem k s.hl).done 15)
      (hindexed : ∀ x d, exec (ofIndexed x d) s = ((s.fetch 4 2).rotMem k ((s.fetch 4 2).idxAddr x d)).done 23) :
      forms k ofReg ofHl ofIndexed := by
    refine ⟨fun r => hregister (hreg r), hplace hhl, fun x d => ?_⟩
    rw [← s.idxAddr_fetch 4 2]
    exact hplace (hindexed x d)
  refine ⟨hforms (fun _ => rfl) rfl fun _ _ => rfl, hforms (fun _ => rfl) rfl fun _ _ => rfl,
    hforms (fun _ => rfl) rfl fun _ _ => rfl, hforms (fun _ => rfl) rfl fun _ _ => rfl,
    hforms (fun _ => rfl) rfl fun _ _ => rfl, hforms (fun _ => rfl) rfl fun _ _ => rfl,
    hforms (fun _ => rfl) rfl fun _ _ => rfl, fun hs => ?_⟩
  have hrun {form : String} {r : Result} : s.undocumented form r = r := State.undocumented_silicon hs form r
  refine ⟨hforms (fun _ => hrun) hrun fun _ _ => hrun, ?_, ?_, ?_, ?_, ?_, ?_, ?_, ?_⟩
  all_goals exact fun _ _ _ => hcopies hrun

/-! ### The digit rotates (R403, R404) -/

section
variable (v : Byte)

theorem toNat_and_0x0F : (v &&& 0x0F).toNat = v.toNat % 16 := Nat.and_two_pow_sub_one_eq_mod v.toNat 4

theorem toNat_shiftRight_4 : (v >>> 4).toNat = v.toNat / 16 := Nat.shiftRight_eq_div_pow v.toNat 4

theorem toNat_and_0xF0 : (v &&& 0xF0).toNat = v.toNat / 16 * 16 := by
  revert v; decide

theorem toNat_shiftLeft_4 : (v <<< 4).toNat = v.toNat % 16 * 16 := by
  rw [BitVec.toNat_shiftLeft, Nat.shiftLeft_eq]
  omega

end

/-- A Byte put together from a high and a low digit is their number: the digits do not overlap. -/
theorem or_digits {high low : Byte} {m n : Nat} (hh : high.toNat = m * 16) (hl : low.toNat = n) (hn : n < 16) :
    high ||| low = BitVec.ofNat 8 (m * 16 + n) := by
  have hor : m * 16 + n = m * 16 ||| n := by
    rw [Nat.mul_comm]
    exact Nat.two_pow_add_eq_or_of_lt (i := 4) hn m
  rw [hor, ← hh, ← hl, ← BitVec.toNat_or, BitVec.ofNat_toNat, BitVec.setWidth_eq]

/-- Settles O50: a digit rotate writes F as a move of its result into A does, then the byte at HL and A; each of the two bytes is put
together from two digits. -/
theorem digitRotatesMoveThreeDigits : Obligations.DigitRotatesMoveThreeDigits := by
  intro s v a moves
  have hmod (b : Byte) : b.toNat % 16 < 16 := Nat.mod_lt _ (by decide)
  have hdiv (b : Byte) : b.toNat / 16 < 16 := Nat.div_lt_of_lt_mul b.isLt
  have of_body {i : Instr} {digit stored : Nat} {w b : Byte}
      (h : exec i s = ({ ((s.fetch 2 2).moveFlags w (parity w)).memWrite s.hl b with a := w } : State).done 18)
      (hw : w = BitVec.ofNat 8 (a / 16 * 16 + digit)) (hb : b = BitVec.ofNat 8 stored) : moves i digit stored := by
    refine completes_flags_memWrite_setReg8 (r := .a) hb hw (fun t hf => ?_) h
    rw [← hw, ← parity_eq]
    exact State.moveFlags_follow (u := s.fetch 2 2) w (parity w) hf rfl rfl
  refine ⟨of_body rfl ?_ ?_, of_body rfl ?_ ?_⟩
  · exact or_digits (toNat_and_0xF0 _) (toNat_shiftRight_4 _) (hdiv _)
  · exact or_digits (toNat_shiftLeft_4 _) (toNat_and_0x0F _) (hmod _)
  · exact or_digits (toNat_and_0xF0 _) (toNat_and_0x0F _) (hmod _)
  · have hlow : ((s.a &&& 0x0F) <<< 4).toNat = s.a.toNat % 16 * 16 := by rw [toNat_shiftLeft_4, toNat_and_0x0F, Nat.mod_mod]
    exact or_digits hlow (toNat_shiftRight_4 _) (hdiv _)

end Sys2Proof.Machine

/-!
SUPPORT. The bit operation family (47_bit.md): what a body leaves that writes F only, the flags of BIT where Y and X are drawn, and what
a body leaves that stores a byte and copies it into a register; with them the statements O51 and O52 settled.
-/

namespace Sys2Proof.Machine

/-! ### BIT (R420 to R423) -/

section
variable {s : State} {i : Instr} {length m1 n : Nat}

/-- A body that writes F only: the two ends of the step move PC, R, the clock and the EI shadow (R10, R521). -/
theorem completes_writeFlags {undoc draws silicon : Byte} {k : Flag → Bool} {us ds : List Flag}
    (hu : ∀ g, g ∉ us → undoc.getLsbD g.bit = false) (hd : ∀ g, g ∉ ds → draws.getLsbD g.bit = false)
    (hk : ∀ g, g ∉ ds → silicon.getLsbD g.bit = k g)
    (h : exec i s = ((s.fetch length m1).writeFlags undoc draws silicon).done n) :
    Completes i s fun t => t = { s.advance length m1 n with f := t.f, draws := t.draws } ∧ FlagsFollow s t k us ds := by
  refine ⟨_, h, ?_, flagsFollow_writeFlags (u := s.fetch length m1) rfl rfl hu hd hk⟩
  rw [State.advance_def]
  rfl

/-- BIT with Y and X those of the Byte `yx`: S, P/V, Y and X are undocumented and no bit is drawn (R420, R422). -/
theorem completes_bitTest {b : BitVec 3} {v yx : Byte}
    (h : exec i s = ((s.fetch length m1).writeFlags 0xAC 0 (bitFlags s.f b v (yx.getLsbD 5) (yx.getLsbD 3))).done n) :
    Completes i s fun t => t = { s.advance length m1 n with f := t.f, draws := t.draws } ∧
      FlagsFollow s t (bitTestFlags s b v yx) [.s, .pv, .y, .x] [] := by
  refine completes_writeFlags (fun g => ?_) (zero_draws · _) (fun g _ => bitFlags_eq s b v yx g) h
  cases g <;> decide

end

/-- Y and X of BIT do not reach the documented flags, so those are as for any Byte `yx` (R421). -/
theorem bitFlags_eq_of_documented (s : State) (b : BitVec 3) (v yx : Byte) (y x : Bool) :
    ∀ g, g ∉ flagsYX → (bitFlags s.f b v y x).getLsbD g.bit = bitTestFlags s b v yx g := by
  simp only [← bitFlags_eq, bitFlags, FlagBits.getLsbD_pack]
  exact forall_documented rfl rfl rfl rfl rfl rfl

/-- Settles O51: a register gives Y and X itself (`completes_bitTest`), the indexed address gives its high half, and for (HL) both are
drawn (`bitFlags_eq_of_documented`). -/
theorem bitTestsOneBitAndWritesOnlyF : Obligations.BitTestsOneBitAndWritesOnlyF := by
  intro s tests high
  have hindexed {i : Instr} {x : Idx} {b : BitVec 3} {d : Byte}
      (h : exec i s = ((s.fetch 4 2).bitIdx b ((s.fetch 4 2).idxByte x d) ((s.fetch 4 2).idxAddr x d)).done 20) :
      tests i 4 20 b (s.memRead (s.indexedAddr x d)) (high x d) [.s, .pv, .y, .x] [] := by
    rw [State.idxByte_fetch, State.idxAddr_fetch, State.bitIdx, hi_eq] at h
    exact completes_bitTest h
  refine ⟨fun b r => completes_bitTest rfl, fun b => ?_, fun x b d => hindexed rfl,
    fun hs x b d z => hindexed (State.undocumented_silicon hs _ _)⟩
  refine completes_writeFlags (fun g => ?_) maskXY_documented
    (bitFlags_eq_of_documented s b (s.memRead s.hl) 0 (s.flag .y) (s.flag .x)) rfl
  cases g <;> decide

/-! ### SET and RES (R424 to R426) -/

/-- A body that stores a byte and copies a byte into a register: the two writes touch different fields (R100, R106, R521). -/
theorem completes_memWrite_setReg8 {s : State} {i : Instr} {length m1 n : Nat} {a : Word} {v w : Byte} {r : Reg8}
    (h : exec i s = (((s.fetch length m1).memWrite a v).setReg8 r w).done n) :
    Completes i s fun t => t = { (s.advance length m1 n).setReg8 r w with mem := t.mem } ∧ StoresByte s t a v := by
  refine ⟨_, h, ?_, (storesByte_memWrite (s.fetch length m1) a v).of_eq rfl rfl (State.setReg8_mem ..)⟩
  rw [State.advance_def, State.memWrite_def]
  cases r <;> rfl

/-- Settles O52: a form writes `setBit` or `resBit` of its operand to a register, to memory, or to both, and these two are `withBit`. -/
theorem setAndResChangeOneBit : Obligations.SetAndResChangeOneBit := by
  intro s inRegister inPlace copies
  have hregister {i : Instr} {b : BitVec 3} {value : Bool} {r : Reg8} {v : Byte} (hv : v = withBit b value (s.reg8 r))
      (h : exec i s = ((s.fetch 2 2).setReg8 r v).done 8) : inRegister i b value r := by
    rw [hv, State.done_setReg8] at h
    exact h
  have hplace {i : Instr} {length n : Nat} {b : BitVec 3} {value : Bool} {ea a : Word} {v : Byte} (ha : ea = a)
      (hv : v = withBit b value (s.memRead ea)) (h : exec i s = ((s.fetch length 2).memWrite ea v).done n) :
      inPlace i length n b value a := by
    rw [hv, ha] at h
    exact completes_memWrite h
  have hcopies {i : Instr} {b : BitVec 3} {value : Bool} {ea a : Word} {r : Reg8} {v : Byte} (ha : ea = a)
      (hv : v = withBit b value (s.memRead ea)) (h : exec i s = (((s.fetch 4 2).memWrite ea v).setReg8 r v).done 23) :
      copies i b value a r := by
    rw [hv, ha] at h
    exact completes_memWrite_setReg8 h
  refine ⟨fun b _ => hregister (setBit_eq b _) rfl, fun b _ => hregister (resBit_eq b _) rfl,
    fun b => hplace rfl (setBit_eq b _) rfl, fun b => hplace rfl (resBit_eq b _) rfl,
    fun x b d => hplace (s.idxAddr_fetch 4 2 x d) (setBit_eq b _) rfl,
    fun x b d => hplace (s.idxAddr_fetch 4 2 x d) (resBit_eq b _) rfl, fun hs x b d r => ⟨?_, ?_⟩⟩
  · exact hcopies (s.idxAddr_fetch 4 2 x d) (setBit_eq b _) (State.undocumented_silicon hs _ _)
  · exact hcopies (s.idxAddr_fetch 4 2 x d) (resBit_eq b _) (State.undocumented_silicon hs _ _)

end Sys2Proof.Machine

/-!
SUPPORT. The jump, call and return family (48_control.md): the two ways a conditional form ends, and what a body leaves that writes PC,
pushes the return address, or pops PC; with them the statements O53 to O55 settled.
-/

namespace Sys2Proof.Machine

/-! ### The two ways a conditional form ends (R146, R451) -/

section
variable {s u v : State} {cc : Cond} {t tTaken : Nat}

theorem State.cond_iff (s : State) (cc : Cond) : s.cond cc = true ↔ condHolds s cc := by
  cases cc <;> simp [State.cond, condHolds]

theorem State.branch_of_holds (h : condHolds s cc) : v.branch (s.cond cc) u t tTaken = u.done tTaken := by
  rw [State.branch, if_pos ((s.cond_iff cc).mpr h)]

theorem State.branch_of_fails (h : ¬condHolds s cc) : v.branch (s.cond cc) u t tTaken = v.done t := by
  rw [State.branch, if_neg (mt (s.cond_iff cc).mp h)]

end

/-- A condition reads F, which the fetch does not write (R146, R521). -/
theorem State.cond_fetch (s : State) (length m1 : Nat) (cc : Cond) : (s.fetch length m1).cond cc = s.cond cc := by
  cases cc <;> rfl

/-! ### Jumps (R440 to R446) -/

section
variable {s : State} {i : Instr} {cc : Cond} {length m1 t tTaken : Nat} {target : Word}

/-- A body that writes PC only (R521). -/
theorem State.done_setPC (s : State) (length m1 n : Nat) (target : Word) :
    { s.fetch length m1 with pc := target }.done n = .next { s.advance length m1 n with pc := target } := by
  rw [State.advance_def]
  rfl

/-- A conditional jump goes to its target where its condition holds, and else moves past the instruction only. -/
theorem exec_conditional_jump
    (h : exec i s =
      (s.fetch length m1).branch ((s.fetch length m1).cond cc) { s.fetch length m1 with pc := target } t tTaken) :
    (condHolds s cc → exec i s = .next { s.advance length m1 tTaken with pc := target }) ∧
      (¬condHolds s cc → exec i s = .next (s.advance length m1 t)) := by
  rw [State.cond_fetch] at h
  refine ⟨fun hc => ?_, fun hc => ?_⟩
  · rw [h, State.branch_of_holds hc, State.done_setPC]
  · rw [h, State.branch_of_fails hc, State.done_fetch]

end

/-- A Byte counted down is 0 exactly where it was 1 (R446, R478). -/
theorem byte_sub_one_bne_zero (v : Byte) : (v - 1 != 0) = decide (v ≠ 1) := by
  rw [Bool.eq_iff_iff, bne_iff_ne, decide_eq_true_eq]
  exact not_congr sub_eq_zero

/-- DJNZ jumps unless B counts down to 0 (R446). -/
theorem exec_djnz (s : State) (e : Byte) :
    exec (.djnz e) s = .next (if s.b ≠ 1
      then { s.advance 2 1 13 with b := s.b - 1, pc := s.jumpTarget 2 e }
      else { s.advance 2 1 8 with b := s.b - 1 }) := by
  have hzero : ((s.fetch 2 1).b - 1 != 0) = decide (s.b ≠ 1) := byte_sub_one_bne_zero s.b
  show execDjnz e s = _
  rw [execDjnz, State.branch, ← s.relTarget_fetch 2 1 e, State.advance_def, State.advance_def]
  simp only [hzero, decide_eq_true_eq]
  split <;> rfl

/-- Settles O53: an unconditional jump writes PC (`done_setPC`), and the other forms are `exec_conditional_jump` and `exec_djnz`. -/
theorem jumpsGoToTheirTargets : Obligations.JumpsGoToTheirTargets := by
  intro s
  refine ⟨s.done_setPC 3 1 10, fun cc nn => exec_conditional_jump rfl, fun e => ?_, fun cc e => ?_, s.done_setPC 1 1 4 s.hl,
    fun x => s.done_setPC 2 2 8 (s.idx x), fun e => ⟨fun hb => ?_, fun hb => ?_⟩⟩
  · rw [← s.relTarget_fetch 2 1 e]
    exact s.done_setPC 2 1 12 _
  · rw [← s.relTarget_fetch 2 1 e]
    cases cc <;> exact exec_conditional_jump rfl
  · rw [exec_djnz, if_pos hb]
  · rw [exec_djnz, if_neg (not_not.mpr hb), hb]
    rfl

/-! ### Calls (R447, R448, R458) -/

/-- An instruction whose body is a call pushes the address after it and jumps (R9, R447, R521). -/
theorem completes_call {s : State} {i : Instr} {length n : Nat} {target : Word}
    (h : exec i s = ((s.fetch length 1).call target).done n) :
    Completes i s fun t =>
      t = { s.advance length 1 n with pc := target, sp := s.sp - 2, mem := t.mem } ∧
      StoresWord s t (s.sp - 2) (s.advance length 1 n).pc := by
  refine ⟨_, h, ?_, ?_⟩
  · rw [State.advance_def, State.call, State.push_eq]
    rfl
  · rw [State.advance_def]
    exact (storesWord_push (s.fetch length 1) (s.fetch length 1).pc).of_eq rfl rfl rfl

/-- Settles O54: the forms that jump have one body, `State.call`. -/
theorem callsPushTheReturnAddress : Obligations.CallsPushTheReturnAddress := by
  intro s calls
  refine ⟨fun nn => completes_call rfl, fun cc nn => ?_, fun y => ?_⟩
  · have hbranch : exec (.callCcNn cc nn) s = (s.fetch 3 1).branch (s.cond cc) ((s.fetch 3 1).call nn) 10 17 := by
      rw [← s.cond_fetch 3 1]
      rfl
    refine ⟨fun hc => completes_call (hbranch.trans (State.branch_of_holds hc)), fun hc => ?_⟩
    rw [hbranch, State.branch_of_fails hc, State.done_fetch]
  · rw [Nat.mul_comm]
    exact completes_call rfl

/-! ### Returns (R449, R450, R456, R457, R459) -/

section
variable (s : State) (length m1 n : Nat)

/-- A body that pops PC (R9, R449). -/
theorem State.done_ret :
    (s.fetch length m1).ret.done n = .next { s.advance length m1 n with pc := s.wordAt s.sp, sp := s.sp + 2 } := by
  rw [← s.memRead16_eq, State.advance_def]
  rfl

/-- A body that pops PC and copies IFF2 into IFF1 (R456, R457). -/
theorem State.done_returnFromInterrupt :
    (s.fetch length m1).returnFromInterrupt.done n =
      .next { s.advance length m1 n with pc := s.wordAt s.sp, sp := s.sp + 2, iff1 := s.iff2 } := by
  rw [← s.memRead16_eq, State.advance_def]
  rfl

end

/-- Settles O55: the bodies are `ret` and `returnFromInterrupt`; RETI and the mirrors have RETN's. -/
theorem returnsPopTheProgramCounter : Obligations.ReturnsPopTheProgramCounter := by
  intro s
  refine ⟨s.done_ret 1 1 10, fun cc => ?_, s.done_returnFromInterrupt 2 2 14, rfl,
    fun hs y => State.undocumented_silicon hs _ _⟩
  have hbranch : exec (.retCc cc) s = (s.fetch 1 1).branch (s.cond cc) (s.fetch 1 1).ret 5 11 := by
    rw [← s.cond_fetch 1 1]
    rfl
  refine ⟨fun hc => ?_, fun hc => ?_⟩
  · rw [hbranch, State.branch_of_holds hc, State.done_ret]
  · rw [hbranch, State.branch_of_fails hc, State.done_fetch]

end Sys2Proof.Machine

/-!
SUPPORT. The input and output family (49_io.md): the port event of a single transfer, and what the bodies of the block transfers between
a port and memory leave; with them the statements O56 and O57 settled.
-/

namespace Sys2Proof.Machine

/-! ### Single transfers (R472 to R477) -/

/-- IN A,(n) reads the port A:n, A as it was, and puts the answer into A (R472). -/
theorem completes_inAN (s : State) (n : Byte) :
    Completes (.inAN n) s fun t =>
      t = { s.advance 2 1 11 with a := s.portValue (s.portAN n), ioLog := t.ioLog, env := t.env } ∧
      readsPort s t (s.portAN n) := by
  refine ⟨_, rfl, ?_, rfl, rfl⟩
  rw [State.advance_def]
  rfl

/-- The flags of a Byte moved in from a port: S, Z, Y, X and parity are the Byte's, H and N clear, C kept (R473). -/
theorem flagsFollow_portRead (s : State) (p : Word) (v : Byte) {t : State}
    (hf : t.f = (((s.fetch 2 2).portRead p).moveFlags v (parity v)).f) :
    FlagsFollow s t (resultFlags v false (evenOnes v) false (s.flag .c)) flagsYX [] := by
  rw [← parity_eq]
  exact State.moveFlags_follow v (parity v) hf rfl rfl

/-- IN r,(C) reads the port B:C and puts the answer into the register and its flags into F (R473). -/
theorem completes_inRC (s : State) (r : Reg8) :
    Completes (.inRC r) s fun t =>
      t = { (s.advance 2 2 12).setReg8 r (s.portValue s.bc) with
            f := t.f, draws := t.draws, ioLog := t.ioLog, env := t.env } ∧
      readsPort s t s.bc ∧
      FlagsFollow s t
        (resultFlags (s.portValue s.bc) false (evenOnes (s.portValue s.bc)) false (s.flag .c)) flagsYX [] := by
  refine ⟨_, rfl, ?_, ⟨State.setReg8_ioLog .., State.setReg8_env ..⟩,
    flagsFollow_portRead s s.bc (s.portValue s.bc) (State.setReg8_f ..)⟩
  rw [State.advance_def]
  cases r <;> rfl

/-- IN F,(C) writes the flags alone (R474). -/
theorem completes_inFC {s : State} (hs : s.cfg.undoc = .silicon) :
    Completes .inFC s fun t =>
      t = { s.advance 2 2 12 with f := t.f, draws := t.draws, ioLog := t.ioLog, env := t.env } ∧ readsPort s t s.bc ∧
      FlagsFollow s t
        (resultFlags (s.portValue s.bc) false (evenOnes (s.portValue s.bc)) false (s.flag .c)) flagsYX [] := by
  refine ⟨_, State.undocumented_silicon hs _ _, ?_, ⟨rfl, rfl⟩, flagsFollow_portRead s s.bc (s.portValue s.bc) rfl⟩
  rw [State.advance_def]
  rfl

/-- A body that writes a port only: one event, dated at the start of the step (R470, R521). -/
theorem State.done_portWrite (s : State) (length m1 n : Nat) (p : Word) (v : Byte) :
    ((s.fetch length m1).portWrite p v).done n =
      .next { s.advance length m1 n with ioLog := s.ioLog ++ [⟨.output, p, v, s.clock⟩] } := by
  rw [State.advance_def]
  rfl

/-- Settles O56: the port addresses in numbers are `join_eq`; each output is `done_portWrite`. -/
theorem singlePortTransfersLogOneEvent : Obligations.SinglePortTransfersLogOneEvent := by
  intro s byAN byC answer flags outs
  have hAN (n : Byte) : s.portAN n = byAN n := join_eq s.a n
  have hC : s.bc = byC := join_eq s.b s.c
  rw [← hC]
  refine ⟨fun n => ?_, completes_inRC s, fun n => ?_, fun r => s.done_portWrite 2 2 12 s.bc (s.reg8 r),
    fun hs => ⟨completes_inFC hs, ?_⟩⟩
  · rw [← hAN]
    exact completes_inAN s n
  · rw [← hAN]
    exact s.done_portWrite 2 1 11 (s.portAN n) s.a
  · exact (State.undocumented_silicon hs _ _).trans (s.done_portWrite 2 2 12 s.bc s.cfg.outCZero)

/-! ### Block transfers between a port and memory (R478 to R486) -/

/-- Y, H, X and P/V are the flags a repeating form draws (R280). -/
theorem maskIoRepeat_drawn (g : Flag) (h : g ∉ [Flag.y, .h, .x, .pv]) : maskIoRepeat.getLsbD g.bit = false := by
  revert h
  cases g <;> decide

section
variable (s : State) (step : Byte)

theorem writesBlockFields_blockIn : WritesBlockFields s (s.blockIn step) := by
  rw [WritesBlockFields, State.blockIn, State.memWrite_def]
  rfl

theorem writesBlockFields_blockOut : WritesBlockFields s (s.blockOut step) := rfl

theorem State.blockIn_hl : (s.blockIn step).hl = s.hl + sext8 step := by
  rw [State.blockIn, State.memWrite_def]
  exact join_hi_lo _

theorem State.blockOut_hl : (s.blockOut step).hl = s.hl + sext8 step := join_hi_lo _

/-- An input reads the port B:C with B as it was (R479). -/
theorem readsPort_blockIn : readsPort s (s.blockIn step) s.bc := by
  rw [State.blockIn, State.memWrite_def]
  exact ⟨rfl, rfl⟩

/-- An input stores the answer at HL (R479). -/
theorem storesByte_blockIn : StoresByte s (s.blockIn step) s.hl (s.portValue s.bc) :=
  (storesByte_memWrite (s.portRead s.bc) s.hl (s.portValue s.bc)).of_eq rfl rfl rfl

/-- The flags of an input, with B after it (R478, R479). -/
theorem flagsFollow_blockIn :
    FlagsFollow s (s.blockIn step)
      (blockIoFlags (s.b - 1) (s.portValue s.bc) ((s.portValue s.bc).toNat + (s.c + step).toNat))
      [.s, .y, .h, .x, .pv, .n, .c] [] := by
  rw [State.blockIn, State.memWrite_def]
  exact State.ioFlags_follow _ _ rfl rfl

/-- The flags of an output, with B and L after it (R478, R483). -/
theorem flagsFollow_blockOut :
    FlagsFollow s (s.blockOut step)
      (blockIoFlags (s.b - 1) (s.memRead s.hl) ((s.memRead s.hl).toNat + (s.blockOut step).l.toNat))
      [.s, .y, .h, .x, .pv, .n, .c] [] :=
  State.ioFlags_follow _ _ rfl rfl

end

/-- What every iteration of a block transfer leaves beside memory, ports and flags: B counts down, HL moves, and the two ends of the
step are those of `afterIteration` (R280, R478). -/
theorem WritesBlockFields.afterIoIteration {s u : State} {move : Word} (hu : WritesBlockFields (s.fetch 2 2) u)
    (hb : u.b = s.b - 1) (hc : u.c = s.c) (hd : u.d = s.d) (he : u.e = s.e) (hhl : u.hl = s.hl + move) (again : Bool) :
    let t := u.afterIteration again maskIoRepeat
    t = { s.advance (if again then 0 else 2) 2 (if again then 21 else 16) with
          b := s.b - 1, h := t.h, l := t.l, f := t.f, draws := t.draws, mem := t.mem, ioLog := t.ioLog, env := t.env } ∧
      t.hl = s.hl + move := by
  have hframe := hu.afterIteration again maskIoRepeat
  rw [hb, hc, hd, he] at hframe
  exact ⟨hframe, hhl⟩

section
variable {s : State} {i : Instr} {step : Byte} {move : Word} {again : Bool} (hmove : sext8 step = move)
include hmove

/-- An iteration of a block input, repeating or not, after its fetch. -/
theorem completes_blockIn (h : exec i s = ((s.fetch 2 2).blockIn step).endIteration again maskIoRepeat) :
    Completes i s fun t =>
      (t = { s.advance (if again then 0 else 2) 2 (if again then 21 else 16) with
            b := s.b - 1, h := t.h, l := t.l, f := t.f, draws := t.draws, mem := t.mem, ioLog := t.ioLog, env := t.env } ∧
        t.hl = s.hl + move) ∧
      readsPort s t s.bc ∧ StoresByte s t s.hl (s.portValue s.bc) ∧
      FlagsFollow s t
        (blockIoFlags (s.b - 1) (s.portValue s.bc) ((s.portValue s.bc).toNat + (s.c + step).toNat))
        [.s, .y, .h, .x, .pv, .n, .c] (if again then [.y, .h, .x, .pv] else []) := by
  have hhl := (s.fetch 2 2).blockIn_hl step
  rw [hmove] at hhl
  refine completes_endIteration h ⟨?_, ?_, ?_, ?_⟩
  · exact (writesBlockFields_blockIn (s.fetch 2 2) step).afterIoIteration (State.blockIn_b ..) (State.blockIn_c ..)
      (State.blockIn_d ..) (State.blockIn_e ..) hhl again
  · exact readsPort_blockIn (s.fetch 2 2) step
  · exact (storesByte_blockIn (s.fetch 2 2) step).of_eq rfl rfl rfl
  · exact FlagsFollow.afterIteration (flagsFollow_blockIn (s.fetch 2 2) step) (State.blockIn_cfg ..) maskIoRepeat_drawn again

/-- An iteration of a block output, repeating or not, after its fetch. -/
theorem completes_blockOut (h : exec i s = ((s.fetch 2 2).blockOut step).endIteration again maskIoRepeat) :
    Completes i s fun t =>
      (t = { s.advance (if again then 0 else 2) 2 (if again then 21 else 16) with
            b := s.b - 1, h := t.h, l := t.l, f := t.f, draws := t.draws, mem := t.mem, ioLog := t.ioLog, env := t.env } ∧
        t.hl = s.hl + move) ∧
      t.mem = s.mem ∧ t.env = s.env ∧
      t.ioLog = s.ioLog ++
        [⟨.output, BitVec.ofNat 16 (256 * (s.b - 1).toNat + s.c.toNat), s.memRead s.hl, s.clock⟩] ∧
      FlagsFollow s t (blockIoFlags (s.b - 1) (s.memRead s.hl) ((s.memRead s.hl).toNat + t.l.toNat))
        [.s, .y, .h, .x, .pv, .n, .c] (if again then [.y, .h, .x, .pv] else []) := by
  have hhl := (s.fetch 2 2).blockOut_hl step
  rw [hmove] at hhl
  refine completes_endIteration h ⟨?_, rfl, rfl, ?_, ?_⟩
  · exact (writesBlockFields_blockOut (s.fetch 2 2) step).afterIoIteration rfl rfl rfl rfl hhl again
  · rw [← join_eq]
    rfl
  · exact FlagsFollow.afterIteration (flagsFollow_blockOut (s.fetch 2 2) step) rfl maskIoRepeat_drawn again

end

/-- Settles O57: each form is one iteration of `blockIn` or `blockOut`, which repeats while B is not 0 after it. -/
theorem blockPortTransfersMoveOneByteAndRepeat : Obligations.BlockPortTransfersMoveOneByteAndRepeat := by
  intro s undoc base drawn ins outs again
  have hin (step : Byte) : (((s.fetch 2 2).blockIn step).b != 0) = again := by
    rw [State.blockIn_b]
    exact byte_sub_one_bne_zero s.b
  have hout (step : Byte) : (((s.fetch 2 2).blockOut step).b != 0) = again := byte_sub_one_bne_zero s.b
  have hup : sext8 1 = 1 := by decide
  have hdown : sext8 (-1) = -1 := by decide
  refine ⟨completes_blockIn hup rfl, completes_blockIn hdown rfl, ?_, ?_, completes_blockOut hup rfl,
    completes_blockOut hdown rfl, ?_, ?_⟩
  · rw [← hin 1]
    exact completes_blockIn hup rfl
  · rw [← hin (-1)]
    exact completes_blockIn hdown rfl
  · rw [← hout 1]
    exact completes_blockOut hup rfl
  · rw [← hout (-1)]
    exact completes_blockOut hdown rfl

end Sys2Proof.Machine

/-!
SUPPORT. The engine family (60_exceptions.md and 70_reset_and_hazards.md): what a boundary without an interrupt does, what each
acknowledge leaves, on what grounds an instruction and a step stop, and the two resets; with them the statements O1, O14 to O19, O21 and
O22 settled.
-/

namespace Sys2Proof.Machine

/-! ### The resets (R600, R601) -/

theorem Loc.mem_all (x : Loc) : x ∈ Loc.all := by
  cases x
  case f k | f' k => cases k <;> decide
  all_goals decide

/-- Settles O1: the fields are read off `powerOn`; a pair is its two halves (`join_hi_lo`), and IFF1 is clear. -/
theorem powerOnResetLeavesTheTableOfTheSpec : Obligations.PowerOnResetLeavesTheTableOfTheSpec := by
  intro cfg env m w s
  refine ⟨rfl, rfl, rfl, rfl, rfl, rfl, rfl, rfl, rfl, rfl, rfl, rfl, rfl, rfl, rfl, rfl, rfl, join_hi_lo _, join_hi_lo _,
    join_hi_lo _, join_hi_lo _, join_hi_lo _, join_hi_lo _, join_hi_lo _, join_hi_lo _, rfl, rfl, rfl, fun h => ?_,
    fun h x => ?_, fun sample => ?_⟩
  · simp [s, State.powerOn, h]
  · simpa [s, State.powerOn, h] using x.mem_all
  · simp [s, State.powerOn, State.acceptsInt]

/-- Where RESET_ENV gives 1 the step is the warm reset (R601). -/
theorem step_of_reset {s : State} (h : s.resetNow = true) : step s = .next s.tick.warmReset := by
  simp [step, State.boundary, h]

/-- Settles O21 by `step_of_reset`: the update names every field `warmReset` and `tick` write. -/
theorem warmResetClearsControlStateOnly : Obligations.WarmResetClearsControlStateOnly := fun _ h => step_of_reset h

/-! ### A boundary without an interrupt, and with one (R520) -/

/-- The state an acknowledge starts from: the samples are used up and the NMI latch is clear (R520, R530). -/
def State.acknowledging (s : State) : State := { s.tick with nmiLatch := false }

section
variable {s : State} (hr : s.engineReady)
include hr

/-- A boundary that accepts no interrupt is a halted tick or an instruction step. -/
theorem step_of_no_interrupt (hi : s.interruptPending = false) :
    step s = if s.halted then .next s.tick.haltTick else s.tick.instrStep := by
  simp only [State.interruptPending, Bool.or_eq_false_iff] at hi
  obtain ⟨⟨hl, he⟩, ha⟩ := hi
  have hl' : s.tick.nmiLatch = false := hl
  have ha' : s.tick.acceptsInt s.intNow = false := ha
  rw [step_of_ready hr, State.latchNmi_quiet he, State.engineBody, hl', ha']
  rfl

/-- A boundary with an NMI latched or its edge sampled is an NMI acknowledge, under the guard of UNSET_READ (R511, R530). -/
theorem step_of_nmi (h : s.nmiLatch = true ∨ s.intNow.nmiEdge = true) :
    step s = (s.tick.latchNmi s.intNow).guardUnset [.sp] id
      (.next (s.acknowledging.enterHandler s.iff2 11 fun _ => 0x0066)) := by
  have hl : (s.tick.latchNmi s.intNow).nmiLatch = true := Bool.or_eq_true_iff.mpr h
  rw [step_of_ready hr, State.engineBody, if_pos hl]
  rfl

/-- A boundary that accepts a maskable interrupt is its acknowledge, under the guard of UNSET_READ (R512, R531, R532). -/
theorem step_of_int (hl : s.nmiLatch = false) (he : s.intNow.nmiEdge = false) (ha : s.acceptsInt s.intNow = true) :
    step s = s.tick.guardUnset [.sp] id (s.acknowledging.intAck s.intNow.intData) := by
  have hclear : s.acknowledging = s.tick := by
    rw [State.acknowledging, ← hl]
    rfl
  have hl' : s.tick.nmiLatch = false := hl
  have ha' : s.tick.acceptsInt s.intNow = true := ha
  rw [hclear, step_of_ready hr, State.latchNmi_quiet he, State.engineBody, hl', ha']
  rfl

end

/-! ### The instruction and the halted tick (R521, R522) -/

/-- The wasted DD and FD bytes move PC and R, one each (R153, R348). -/
theorem State.skipPrefixes_tick (s : State) (n : Nat) :
    s.tick.skipPrefixes n = { s.advance n n 0 with eiShadow := s.eiShadow, env := s.tick.env } := by
  rw [State.advance_def]
  rfl

theorem Result.addClock_eq (n : Nat) (res : Result) :
    res.addClock n = match res with
      | .next t => .next { t with clock := t.clock + n }
      | .fault r => .fault r
      | .refused r => .refused r := by
  cases res <;> rfl

/-- Settles O14: the step is `runDecoded` (`step_eq_runDecoded`), whose wasted bytes are an `advance`. -/
theorem stepRunsTheDecodedInstruction : Obligations.StepRunsTheDecodedInstruction := by
  intro s d hr hi hh hd
  refine ⟨?_, fun hc => State.guardUnset_draw hc⟩
  rw [step_eq_runDecoded hr hi hh hd, State.runDecoded, State.skipPrefixes_tick, Result.addClock_eq]
  rfl

theorem State.haltTick_tick (s : State) : s.tick.haltTick = { s.advance 0 1 4 with env := s.tick.env } := by
  have hpc : s.pc + BitVec.ofNat 16 0 = s.pc := BitVec.add_zero s.pc
  rw [State.advance_def, hpc]
  rfl

/-- A step that ends the wait is a reset or an acknowledge (R534). -/
theorem reset_or_interrupt_of_wakes {s t : State} (h : step s = .next t) (hs : s.halted = true) (ht : t.halted = false) :
    s.resetNow = true ∨ s.interruptPending = true := by
  obtain ⟨hreset, -⟩ | ⟨-, s', rfl, ⟨hlatch, -⟩ | ⟨-, ha, -⟩ | ⟨-, -, -, rfl⟩ | ⟨-, -, hrun, -⟩⟩ := step_cases h
  · exact .inl hreset
  · exact .inr (by rw [State.interruptPending, show (s.nmiLatch || s.intNow.nmiEdge) = true from hlatch, Bool.true_or])
  · exact .inr (by rw [State.interruptPending, ha, Bool.or_true])
  · exact absurd (hs.symm.trans ht) (by decide)
  · exact absurd (hs.symm.trans hrun) (by decide)

/-- Settles O15: no interrupt leaves the halted tick (`step_of_no_interrupt`), and the cases of a step say what ends the wait. -/
theorem haltedTickOnlyCountsRAndTheClock : Obligations.HaltedTickOnlyCountsRAndTheClock := by
  refine ⟨fun s hr hi hh => ?_, fun s t => reset_or_interrupt_of_wakes⟩
  rw [step_of_no_interrupt hr hi, if_pos hh, State.haltTick_tick]

/-! ### The acknowledges (R530 to R533) -/

/-- What taking an interrupt at a boundary leaves: PC pushed, the handler's address in PC, and the samples used up. -/
theorem enterHandler_acknowledging (s : State) (iff2 : Bool) (n : Nat) (target : State → Word) :
    let t := s.acknowledging.enterHandler iff2 n target
    t = { s.advance 0 1 n with
          nmiLatch := false, halted := false, iff1 := false, iff2 := iff2, sp := s.sp - 2, pc := t.pc, mem := t.mem,
          env := s.tick.env } ∧
      StoresWord s t (s.sp - 2) s.pc :=
  ⟨s.acknowledging.enterHandler_eq iff2 n target,
    (storesWord_enterHandler s.acknowledging iff2 n target).of_eq rfl rfl rfl⟩

/-- Settles O16: the acknowledge is `enterHandler` with IFF2 kept. -/
theorem nmiAcknowledgeEntersAt0066 : Obligations.NmiAcknowledgeEntersAt0066 := by
  intro s hr hc hn
  have hdraw : (s.tick.latchNmi s.intNow).cfg.unsetRead = .draw := hc
  exact ⟨_, (step_of_nmi hr hn).trans (State.guardUnset_draw hdraw _ _ _), enterHandler_acknowledging s s.iff2 11 fun _ => 0x0066⟩

/-- The RST opcode that calls 8y (R458, R531). -/
def rstByte (y : BitVec 3) : Byte := BitVec.ofNat 8 (0xC7 + 8 * y.toNat)

theorem isRstOpcode_rstByte (y : BitVec 3) : isRstOpcode (rstByte y) = true := by
  revert y
  decide

theorem rstTarget_rstByte (y : BitVec 3) : rstTarget (rstByte y) = BitVec.ofNat 16 (8 * y.toNat) := by
  revert y
  decide

/-- Every RST opcode is one of the eight: its y field says which. -/
theorem eq_rstByte_of_isRstOpcode {b : Byte} (h : isRstOpcode b = true) : ∃ y, b = rstByte y := by
  refine ⟨b.extractLsb' 3 3, ?_⟩
  revert b
  decide

section
variable {s : State} {data : List Byte}

theorem State.intAck_im1 (h : s.im = .im1) : s.intAck data = .next (s.enterHandler false 13 fun _ => 0x0038) := by
  simp [State.intAck, h]

theorem State.intAck_im2 (h : s.im = .im2) :
    s.intAck data =
      .next (s.enterHandler false 19 fun t => t.memRead16 (join s.i ((ackData data).headD 0xFF))) := by
  simp [State.intAck, h]

/-- In mode 0 one RST byte enters at its address (R531). -/
theorem State.intAck_im0_rst (h : s.im = .im0) {y : BitVec 3} (hd : ackData data = [rstByte y]) :
    s.intAck data = .next (s.enterHandler false 13 fun _ => BitVec.ofNat 16 (8 * y.toNat)) := by
  simp [State.intAck, h, hd, isRstOpcode_rstByte, rstTarget_rstByte]

/-- In mode 0 any other data is refused (R531). -/
theorem State.intAck_im0_other (h : s.im = .im0) (hd : ∀ y, ackData data ≠ [rstByte y]) :
    s.intAck data = .refused (.im0Data data) := by
  unfold State.intAck
  split
  next b _ hb =>
    refine if_neg fun hrst => ?_
    obtain ⟨y, rfl⟩ := eq_rstByte_of_isRstOpcode hrst
    exact hd y hb
  next => rfl
  next him => cases h.symm.trans him
  next him => cases h.symm.trans him

/-- An acknowledge never faults, and refuses nothing but mode 0 data (R531). -/
theorem State.intAck_stops :
    (∀ x, s.intAck data ≠ .fault x) ∧ ∀ x, s.intAck data = .refused x → s.im = .im0 ∧ x = .im0Data data := by
  cases him : s.im with
  | im1 => rw [State.intAck_im1 him]; exact ⟨nofun, nofun⟩
  | im2 => rw [State.intAck_im2 him]; exact ⟨nofun, nofun⟩
  | im0 =>
    by_cases hd : ∃ y, ackData data = [rstByte y]
    · obtain ⟨y, hy⟩ := hd
      rw [State.intAck_im0_rst him hy]
      exact ⟨nofun, nofun⟩
    · rw [State.intAck_im0_other him (not_exists.mp hd)]
      exact ⟨nofun, by rintro _ ⟨⟩; exact ⟨rfl, rfl⟩⟩

end

theorem State.acceptsInt_of_enabled {s : State} {k : IntSample} (hi : k.intLine = true) (h1 : s.iff1 = true)
    (he : s.eiShadow = false) : s.acceptsInt k = true := by
  simp [State.acceptsInt, hi, h1, he]

/-- Settles O17: the mode and the data choose the entry, and the rest is `enterHandler_acknowledging`. -/
theorem maskableAcknowledgeEntersByMode : Obligations.MaskableAcknowledgeEntersByMode := by
  intro s hr hc hl he hi h1 hs enters
  have hdraw : s.tick.cfg.unsetRead = .draw := hc
  have hstep := step_of_int hr hl he (State.acceptsInt_of_enabled hi h1 hs)
  rw [State.guardUnset_draw hdraw] at hstep
  have hfixed {n : Nat} {w : Word} (h : s.acknowledging.intAck s.intNow.intData =
      .next (s.acknowledging.enterHandler false n fun _ => w)) : enters n fun _ => w :=
    ⟨_, hstep.trans h, enterHandler_acknowledging s false n fun _ => w⟩
  have hvector (him : s.im = .im2) {b : Byte} (hb : (ackData s.intNow.intData).headD 0xFF = b) :
      enters 19 fun t => t.wordAt (BitVec.ofNat 16 (256 * s.i.toNat + b.toNat)) := by
    have hack := State.intAck_im2 (s := s.acknowledging) (data := s.intNow.intData) him
    obtain ⟨hframe, hstore⟩ := enterHandler_acknowledging s false 19 fun t => t.memRead16 (join s.i b)
    rw [State.enterHandler_pc_read] at hframe
    rw [hb] at hack
    rw [← join_eq]
    exact ⟨_, hstep.trans hack, hframe, hstore⟩
  have hrst (him : s.im = .im0) {y : BitVec 3} (hd : ackData s.intNow.intData = [rstByte y]) :
      enters 13 fun _ => BitVec.ofNat 16 (8 * y.toNat) :=
    hfixed (State.intAck_im0_rst (s := s.acknowledging) him hd)
  refine ⟨fun him => hfixed (State.intAck_im1 (s := s.acknowledging) him), fun him y hd => hrst him ?_,
    fun him hd => hrst him (y := 7) ?_, fun him b more hd => hvector him ?_,
    fun him hd => hvector him (b := 0xFF) ?_⟩
  all_goals rw [hd]; rfl

/-- Settles O18 by `intAck_im0_other`; the guard lets a refusal through. -/
theorem modeZeroRefusesDataThatIsNoRst : Obligations.ModeZeroRefusesDataThatIsNoRst := by
  intro s hr hl he hi h1 hs him hne hrst
  rw [step_of_int hr hl he (State.acceptsInt_of_enabled hi h1 hs), State.guardUnset_refused]
  have hdata : ackData s.intNow.intData = s.intNow.intData := by simp [ackData, hne]
  refine State.intAck_im0_other him fun y => ?_
  rw [hdata]
  exact hrst y

/-! ### The EI shadow (R532, R611) -/

/-- Settles O19: no acknowledge and no halted tick sets the shadow, of the instructions EI alone does (O5), and while it stands no
maskable interrupt is accepted. -/
theorem eiShadowHoldsTheMaskableInterruptOff : Obligations.EiShadowHoldsTheMaskableInterruptOff := by
  refine ⟨fun s t h ht => ?_, fun s hr hl he hs => step_of_no_interrupt hr ?_⟩
  · obtain ⟨-, rfl⟩ | ⟨-, s', rfl, ⟨-, rfl⟩ | ⟨-, -, ha⟩ | ⟨-, -, -, rfl⟩ | ⟨-, -, -, d, u, hd, hu, hframe, -⟩⟩ := step_cases h
    · cases ht
    · exact absurd ht (by simp [State.nmiAck])
    · obtain ⟨n, target, rfl⟩ := State.intAck_next ha
      exact absurd ht (by simp)
    · cases ht
    · obtain ⟨-, -, -, -, -, -, hshadow, -⟩ := controlRegistersHaveOnlyTheirNamedWriters d.instr _ u hu
      rw [hframe] at ht
      exact ⟨d, hd, hshadow.mp ht⟩
  · simp [State.interruptPending, State.acceptsInt, hl, he, hs]

/-! ### Where decode does not return (R156, R503) -/

/-- A scan that runs out of fuel has read DD or FD at every address it came to. -/
theorem code_of_decodeScan_hangs {rd : Word → Byte} {fuel : Nat} {p : Word} {ps : List Idx}
    (h : decodeScan rd fuel p ps = .prefixHang) : ∀ k < fuel, ∃ x : Idx, rd (p + BitVec.ofNat 16 k) = x.code := by
  induction fuel generalizing p ps with
  | zero => exact fun k hk => absurd hk (Nat.not_lt_zero k)
  | succ fuel ih =>
    rw [decodeScan] at h
    split at h
    next x hx =>
      intro k hk
      cases k with
      | zero => exact ⟨x, by simpa using (Idx.ofByte_eq_some _ _).mp hx⟩
      | succ k =>
        rw [word_succ]
        exact ih h k (Nat.lt_of_succ_lt_succ hk)
    next => cases h

/-- PREFIX_LIMIT addresses are all of memory (R5, R156). -/
theorem dd_or_fd_of_decodeFrom_hangs {rd : Word → Byte} {pc : Word} (h : decodeFrom rd pc = .prefixHang) (a : Word) :
    rd a = 0xDD ∨ rd a = 0xFD := by
  obtain ⟨x, hx⟩ := code_of_decodeScan_hangs h (a - pc).toNat (a - pc).isLt
  have ha : pc + BitVec.ofNat 16 (a - pc).toNat = a := by
    rw [BitVec.ofNat_toNat, BitVec.setWidth_eq]
    bv_omega
  rw [ha] at hx
  cases x
  · exact .inl hx
  · exact .inr hx

/-! ### Where an instruction stops (R160, R502) -/

section
variable {i : Instr} {s : State}

/-- Both ways a conditional form ends are next states (R451). -/
theorem branch_completes (u v : State) (holds : Bool) (t tTaken : Nat) : ∃ w, v.branch holds u t tTaken = .next w := by
  unfold State.branch
  split
  · exact ⟨_, rfl⟩
  · exact ⟨_, rfl⟩

/-- An instruction completes, or it is an undocumented form, whose meaning stands under R160's test of UNDOC. -/
theorem exec_completes_or_undocumented (i : Instr) (s : State) :
    (∃ t, exec i s = .next t) ∨ i.info.documented = false ∧ ∃ k, exec i s = s.undocumented i.info.form k := by
  cases i
  case djnz | jrCc | retCc | jpCcNn | callCcNn => exact .inl (branch_completes _ _ _ _ _)
  case cpir | cpdr | ldir | inir | otir | lddr | indr | otdr => exact .inl ⟨_, State.endIteration_eq _ _ _⟩
  case sllR | sllHlInd | negMirror | imMirror | retnMirror | inFC | outC0 | incHalf | decHalf | ldHalfN | ldHalves | addAHalf
      | adcAHalf | subHalf | sbcAHalf | andHalf | xorHalf | orHalf | cpHalf | rlcIxdR | rrcIxdR | rlIxdR | rrIxdR | slaIxdR
      | sraIxdR | sllIxdR | sllIxd | srlIxdR | bitBIxdZ | resBIxdR | setBIxdR => exact .inr ⟨rfl, _, rfl⟩
  all_goals exact .inl ⟨_, rfl⟩

/-- No instruction faults (R500). -/
theorem exec_ne_fault (i : Instr) (s : State) (x : Fault) : exec i s ≠ .fault x := by
  obtain ⟨_, h, _⟩ | ⟨_, _, h⟩ := exec_answers i s <;> simp [h]

/-- An instruction is refused on one ground only: it is an undocumented form under UNDOC = refuse. -/
theorem exec_refused {x : Refusal} (h : exec i s = .refused x) :
    s.cfg.undoc = .refuse ∧ i.info.documented = false ∧ x = .undocumented i.info.form := by
  obtain ⟨t, ht⟩ | ⟨hdoc, k, hk⟩ := exec_completes_or_undocumented i s
  · cases ht.symm.trans h
  · cases hs : s.cfg.undoc with
    | silicon =>
      obtain ⟨t, ht⟩ := exec_completes i hs
      cases ht.symm.trans h
    | refuse =>
      rw [hk, State.undocumented_refuse hs] at h
      cases h
      exact ⟨rfl, hdoc, rfl⟩

end

/-! ### Where a step stops (R501 to R503) -/

theorem Result.addClock_eq_fault {n : Nat} {res : Result} {x : Fault} : res.addClock n = .fault x ↔ res = .fault x := by
  cases res <;> simp [Result.addClock]

theorem Result.addClock_eq_refused {n : Nat} {res : Result} {x : Refusal} : res.addClock n = .refused x ↔ res = .refused x := by
  cases res <;> simp [Result.addClock]

section
variable {s : State} {k : IntSample}

/-- A fault of the state names a location marked unset, under UNSET_READ = fault (R62). -/
def State.UnsetFault (s : State) (x : Fault) : Prop :=
  s.cfg.unsetRead = .fault ∧ ∃ loc, loc ∈ s.unset ∧ x = .invariant (.unsetRead loc)

/-- A guarded step that does not fault of itself faults on a marked location only. -/
theorem State.unsetFault_of_guard {locs : List Loc} {marks : List Loc → List Loc} {res : Result} {x : Fault}
    (h : s.guardUnset locs marks res = .fault x) (hres : ∀ y, res ≠ .fault y) : s.UnsetFault x := by
  obtain hx | ⟨hc, loc, -, hm, hx⟩ := State.guardUnset_fault h
  · exact absurd hx (hres x)
  · exact ⟨hc, loc, hm, hx⟩

/-- An instruction step faults where decode does not return, or on a marked location. -/
theorem State.instrStep_fault {x : Fault} (h : s.instrStep = .fault x) :
    x = .prefixHang ∧ s.decodeAtPc = .prefixHang ∨ s.UnsetFault x := by
  unfold State.instrStep at h
  split at h
  next d _ => exact .inr (State.unsetFault_of_guard h fun y hy => exec_ne_fault _ _ y (Result.addClock_eq_fault.mp hy))
  next hd =>
    cases h
    exact .inl ⟨rfl, hd⟩

/-- An instruction step is refused where the form decoded is. -/
theorem State.instrStep_refused {x : Refusal} (h : s.instrStep = .refused x) :
    s.cfg.undoc = .refuse ∧ ∃ d, s.decodeAtPc = .ok d ∧ d.documented = false ∧ x = .undocumented d.form := by
  unfold State.instrStep at h
  split at h
  next d hd =>
    have he := Result.addClock_eq_refused.mp (State.guardUnset_refused.mp h)
    obtain ⟨hs, hdoc, hx⟩ := exec_refused he
    exact ⟨hs, d, hd, hdoc, hx⟩
  next => cases h

/-- Of what one engine step can do, only an instruction faults, but for the guard (R501, R503). -/
theorem State.engineBody_fault {x : Fault} (h : s.engineBody k = .fault x) :
    x = .prefixHang ∧ s.decodeAtPc = .prefixHang ∨ s.UnsetFault x := by
  unfold State.engineBody at h
  split at h
  · exact .inr (State.unsetFault_of_guard h nofun)
  · split at h
    · exact .inr (State.unsetFault_of_guard h State.intAck_stops.1)
    · split at h
      · cases h
      · exact State.instrStep_fault h

/-- Of what one engine step can do, a maskable acknowledge in mode 0 and an instruction are refused (R502, R531). -/
theorem State.engineBody_refused {x : Refusal} (h : s.engineBody k = .refused x) :
    s.im = .im0 ∧ x = .im0Data k.intData ∨
      s.cfg.undoc = .refuse ∧ ∃ d, s.decodeAtPc = .ok d ∧ d.documented = false ∧ x = .undocumented d.form := by
  unfold State.engineBody at h
  split at h
  · cases State.guardUnset_refused.mp h
  · split at h
    · exact .inl (State.intAck_stops.2 x (State.guardUnset_refused.mp h))
    · split at h
      · cases h
      · exact .inr (State.instrStep_refused h)

/-- From a state with no mark a step that stops is an engine step. -/
theorem step_of_unmarked (hf : s.faulted = none) (hr : s.refused = none) (hn : ∀ t, step s ≠ .next t) :
    step s = (s.tick.latchNmi s.intNow).engineBody s.intNow := by
  cases hreset : s.resetNow with
  | true => exact absurd (step_of_reset hreset) (hn _)
  | false => exact step_of_ready ⟨hreset, hf, hr⟩

end

/-- Settles O22: sampling the inputs changes neither memory nor PC, so the grounds of the engine step are those of the state. -/
theorem stepStopsOnlyAsTheSpecLists : Obligations.StepStopsOnlyAsTheSpecLists := by
  intro s hf hr
  refine ⟨fun x h => ?_, fun x h => ?_⟩
  · rw [step_of_unmarked hf hr (by simp [h])] at h
    obtain ⟨hx, hd⟩ | hunset := State.engineBody_fault h
    · exact .inl ⟨hx, dd_or_fd_of_decodeFrom_hangs hd⟩
    · exact .inr hunset
  · rw [step_of_unmarked hf hr (by simp [h])] at h
    exact State.engineBody_refused (s := s.tick.latchNmi s.intNow) h

end Sys2Proof.Machine

/-!
SUPPORT. The debug controller (60_exceptions.md section 6): the breakpoints as a set, what a watchpoint evaluation reports, and where
the loop of `run()` stops; with them the statements O58 to O60 settled.
-/

namespace Sys2Proof.Machine

/-! ### Breakpoints (R561) -/

section
variable (a : Word) (l : List Word)

theorem mem_insertAddr (b : Word) : b ∈ insertAddr a l ↔ b = a ∨ b ∈ l := by
  induction l with
  | nil => simp [insertAddr]
  | cons c l ih =>
    rw [insertAddr]
    split
    next h => simp [h]
    next =>
      split
      · exact List.mem_cons
      · rw [List.mem_cons, List.mem_cons, ih, or_left_comm]

theorem insertAddr_insertAddr : insertAddr a (insertAddr a l) = insertAddr a l := by
  induction l with
  | nil => simp [insertAddr]
  | cons c l ih =>
    by_cases hac : a = c
    · simp [insertAddr, hac]
    · by_cases hlt : a.toNat < c.toNat
      · simp [insertAddr, hac, hlt]
      · simp [insertAddr, hac, hlt, ih]

variable {l}

/-- The address goes before the first higher one, so a rising list stays rising (R560). -/
theorem insertAddr_rising (h : l.Pairwise (fun b c => b.toNat < c.toNat)) :
    (insertAddr a l).Pairwise (fun b c => b.toNat < c.toNat) := by
  induction l with
  | nil => exact List.pairwise_singleton _ _
  | cons c l ih =>
    obtain ⟨hc, hl⟩ := List.pairwise_cons.mp h
    rw [insertAddr]
    split
    next => exact h
    next hne =>
      split
      next hlt =>
        refine List.pairwise_cons.mpr ⟨fun b hb => ?_, h⟩
        obtain rfl | hb := List.mem_cons.mp hb
        · exact hlt
        · exact hlt.trans (hc b hb)
      next hge =>
        refine List.pairwise_cons.mpr ⟨fun b hb => ?_, ih hl⟩
        obtain rfl | hb := (mem_insertAddr a l b).mp hb
        · have := mt BitVec.eq_of_toNat_eq hne
          omega
        · exact hc b hb

end

theorem State.mem_clearBreakpoint (s : State) (a b : Word) : b ∈ (s.clearBreakpoint a).dbg.bps ↔ b ≠ a ∧ b ∈ s.dbg.bps := by
  simp [State.clearBreakpoint, and_comm]

/-- Clearing an address that is no breakpoint changes nothing. -/
theorem State.clearBreakpoint_of_not_mem {s : State} {a : Word} (h : a ∉ s.dbg.bps) : s.clearBreakpoint a = s := by
  have hkeep : s.dbg.bps.filter (· != a) = s.dbg.bps := by
    refine List.filter_eq_self.mpr fun b hb => ?_
    rw [bne_iff_ne]
    rintro rfl
    exact h hb
  rw [State.clearBreakpoint, hkeep]

/-- Settles O58: `insertAddr` adds one address to the rising list and the filter takes one away; no step writes the list. -/
theorem breakpointsAreASet : Obligations.BreakpointsAreASet := by
  intro s a hok
  obtain ⟨hrise, hwps, hids⟩ := hok
  have hgone : ∀ u : State, a ∉ (u.clearBreakpoint a).dbg.bps := fun u h => ((u.mem_clearBreakpoint a a).mp h).1 rfl
  refine ⟨mem_insertAddr a s.dbg.bps, s.mem_clearBreakpoint a, ?_, State.clearBreakpoint_of_not_mem (hgone s),
    State.clearBreakpoint_of_not_mem, hgone _, ⟨insertAddr_rising a hrise, hwps, hids⟩, ⟨hrise.filter _, hwps, hids⟩, rfl, rfl,
    fun t h => (step_frame h).bps⟩
  simp only [State.setBreakpoint, insertAddr_insertAddr]

/-! ### What a watchpoint evaluation reports (R563, R567) -/

section
variable {s u v : State}

/-- An id has fired exactly where its own watchpoint's predicate holds: ids are not shared (R560). -/
theorem State.id_mem_fired {w : Watch} (hrise : s.dbg.wps.Pairwise (fun v w => v.id < w.id)) (hw : w ∈ s.dbg.wps) :
    w.id ∈ s.evalWatchpoints.dbg.fired ↔ w.pred.holds w.snap (s.valueOf w.target) = true := by
  rw [State.mem_fired]
  refine ⟨fun ⟨w', hw', hholds, hid⟩ => ?_, fun h => ⟨w, hw, h, rfl⟩⟩
  have hids : (s.dbg.wps.map Watch.id).Nodup := List.pairwise_map.mpr (hrise.imp Nat.ne_of_lt)
  exact List.inj_on_of_nodup_map hids hw' hw hid ▸ hholds

/-- The controller after an evaluation, at rest, where the state evaluated has the sets of `s` and the values of `v`. -/
theorem reportsWatchpoints_evalWatchpoints (hs : Dbg.Ok s.dbg) (hwps : u.dbg.wps = s.dbg.wps) (hbps : u.dbg.bps = s.dbg.bps)
    (hnext : u.dbg.nextId = s.dbg.nextId) (hval : ∀ x, u.valueOf x = v.valueOf x) :
    reportsWatchpoints s v u.evalWatchpoints.toIdle := by
  obtain ⟨-, hrise, -⟩ := hs
  rw [← hwps] at hrise
  refine ⟨fun w hw => ?_, fun k hk => ?_, State.fired_pairwise hrise, ?_, rfl, rfl, hbps, hnext⟩
  · rw [← hval]
    exact State.id_mem_fired hrise (hwps ▸ hw)
  · obtain ⟨w, hw, -, hid⟩ := State.mem_fired.mp hk
    exact ⟨w, hwps ▸ hw, hid⟩
  · show u.dbg.wps.map _ = _
    simp only [hwps, hval]

end

/-! ### `step()` (R563) -/

/-- A mark returned is a fault or a refusal. -/
theorem State.markReturn_cases {s : State} {ret : DbgReturn} (h : s.markReturn = some ret) :
    (∃ r, ret = .fault r) ∨ ∃ r, ret = .refused r := by
  unfold State.markReturn at h
  split at h
  all_goals cases h
  · exact .inl ⟨_, rfl⟩
  · exact .inr ⟨_, rfl⟩

section
variable {s u : State} (hf : s.faulted = none) (hr : s.refused = none) (hreset : s.resetNow = false)
include hf hr hreset

/-- `step()` whose boundary's step leads to `u` evaluates the watchpoints there, goes to rest, and returns the mark of `u` if it has
one. -/
theorem State.debugStep_of_boundary (h : (s.setMode .steppingOne).debugBoundary = some u) :
    s.debugStep = some (u.markReturn.getD (.stepped u.evalWatchpoints.dbg.fired), u.evalWatchpoints.toIdle) := by
  rw [State.debugStep_eq hf hr, h, Option.map_some, State.evalAfter_of_engine hreset]
  rfl

theorem State.debugStep_of_next (h : step (s.setMode .steppingOne) = .next u) :
    s.debugStep = some (.stepped u.evalWatchpoints.dbg.fired, u.evalWatchpoints.toIdle) := by
  obtain ⟨hf', hr'⟩ := step_keeps_marks h
  have hmark : u.markReturn = none := State.markReturn_eq_none.mpr ⟨hf'.trans hf, hr'.trans hr⟩
  rw [State.debugStep_of_boundary hf hr hreset (State.debugBoundary_of_next h), hmark, Option.getD_none]

theorem State.debugStep_of_fault {r : InvariantReason} (h : step (s.setMode .steppingOne) = .fault (.invariant r)) :
    s.debugStep =
      some (.fault r, { s.setMode .steppingOne with faulted := some r }.evalWatchpoints.toIdle) := by
  have hb := State.debugBoundary_of_fault h
  rw [show (s.setMode .steppingOne).faulted = none from hf, Option.getD_none] at hb
  rw [State.debugStep_of_boundary hf hr hreset hb, State.markReturn_of_faulted rfl, Option.getD_some]

theorem State.debugStep_of_refused {r : Refusal} (h : step (s.setMode .steppingOne) = .refused r) :
    s.debugStep =
      some (.refused r, { s.setMode .steppingOne with refused := some r }.evalWatchpoints.toIdle) := by
  have hb := State.debugBoundary_of_refused h
  rw [show (s.setMode .steppingOne).refused = none from hr, Option.getD_none] at hb
  rw [State.debugStep_of_boundary hf hr hreset hb, State.markReturn_of_refused (r := r), Option.getD_some]
  · exact hf
  · rfl

end

/-- `step()` that returns Stepped has made one step, to a next state. -/
theorem State.debugStep_stepped {s t : State} {fired : List Nat} (hreset : s.resetNow = false)
    (h : s.debugStep = some (.stepped fired, t)) :
    ∃ u, step (s.setMode .steppingOne) = .next u ∧ fired = u.evalWatchpoints.dbg.fired ∧ t = u.evalWatchpoints.toIdle := by
  cases hmark : s.markReturn with
  | some ret =>
    cases (State.debugStep_of_mark hmark).symm.trans h
    obtain ⟨r, hret⟩ | ⟨r, hret⟩ := State.markReturn_cases hmark
    · cases hret
    · cases hret
  | none =>
    obtain ⟨hf, hr⟩ := State.markReturn_eq_none.mp hmark
    cases hstep : step (s.setMode .steppingOne) with
    | next u =>
      cases (State.debugStep_of_next hf hr hreset hstep).symm.trans h
      exact ⟨u, rfl, rfl, rfl⟩
    | fault x =>
      cases x with
      | invariant r => cases (State.debugStep_of_fault hf hr hreset hstep).symm.trans h
      | prefixHang =>
        rw [State.debugStep_eq hf hr, State.debugBoundary_eq_none.mpr hstep] at h
        cases h
    | refused r => cases (State.debugStep_of_refused hf hr hreset hstep).symm.trans h

/-- Settles O59: each way `step()` returns leaves a watchpoint evaluation at rest, with the values after the step or, where the step
sets a mark, those of `s`. -/
theorem stepCallReportsTheWatchpointsThatFire : Obligations.StepCallReportsTheWatchpointsThatFire := by
  intro s hs hreset
  refine ⟨fun t fired h => ?_, fun hf hr => ⟨fun r h => ?_, fun r h => ?_⟩⟩
  · obtain ⟨u, hstep, rfl, rfl⟩ := State.debugStep_stepped hreset h
    have f := step_frame hstep
    exact ⟨rfl, u, hstep, reportsWatchpoints_evalWatchpoints hs f.wps f.bps f.nextId fun _ => rfl, rfl⟩
  · refine ⟨_, State.debugStep_of_fault hf hr hreset h, ?_, rfl⟩
    exact reportsWatchpoints_evalWatchpoints hs rfl rfl rfl fun x =>
      ((s.setMode .steppingOne).valueOf_marks _ _ x).trans (s.setMode_valueOf _ x)
  · refine ⟨_, State.debugStep_of_refused hf hr hreset h, ?_, rfl⟩
    exact reportsWatchpoints_evalWatchpoints hs rfl rfl rfl fun x =>
      ((s.setMode .steppingOne).valueOf_marks _ _ x).trans (s.setMode_valueOf _ x)

/-! ### The loop of `run()` (R570) -/

/-- The state `run()` leaves at a breakpoint. -/
def State.stoppedAt (s : State) (a : Word) : State :=
  { s with dbg := { s.dbg with mode := .stoppedAtBreakpoint, stopBp := some a } }

/-- PC is on a breakpoint other than the one resumed from, at a boundary that is no halted one (R570). -/
def State.OnBreakpoint (s : State) (resume : Option Word) : Prop := s.halted = false ∧ s.pc ∈ s.dbg.bps ∧ resume ≠ some s.pc

section
variable {s t : State} {stop : Nat → Bool} {fuel k : Nat} {resume : Option Word}

theorem State.onBreakpoint_iff :
    (!s.halted && s.dbg.bps.contains s.pc && resume != some s.pc) = true ↔ s.OnBreakpoint resume := by
  simp [State.OnBreakpoint, and_assoc]

theorem runLoop_of_breakpoint (hk : stop k = false) (h : s.OnBreakpoint resume) :
    runLoop stop (fuel + 1) k resume s = .returned (.atBreakpoint s.pc) (s.stoppedAt s.pc) := by
  rw [runLoop, hk, State.onBreakpoint_iff.mpr h]
  rfl

/-- Where no breakpoint stops the loop and a step sets no mark and fires no watchpoint, it goes on at the next boundary. -/
theorem runLoop_of_next (hk : stop k = false) (h : ¬s.OnBreakpoint resume) (hstep : step s = .next t) (hf : t.faulted = none)
    (hr : t.refused = none) (hfired : (s.evalAfter t).dbg.fired = []) :
    runLoop stop (fuel + 1) k resume s = runLoop stop fuel (k + 1) none (s.evalAfter t) := by
  rw [runLoop, if_neg (by simp [hk]), if_neg (mt State.onBreakpoint_iff.mp h), State.debugBoundary_of_next hstep]
  simp [State.markReturn_eq_none.mpr ⟨hf, hr⟩, hfired]

/-- A boundary's step, with or without a mark, keeps the breakpoints (R561). -/
theorem State.debugBoundary_bps (h : s.debugBoundary = some t) : t.dbg.bps = s.dbg.bps := by
  cases hstep : step s with
  | next u =>
    cases (State.debugBoundary_of_next hstep).symm.trans h
    exact (step_frame hstep).bps
  | fault x =>
    cases x with
    | invariant r =>
      cases (State.debugBoundary_of_fault hstep).symm.trans h
      rfl
    | prefixHang => cases (State.debugBoundary_eq_none.mpr hstep).symm.trans h
  | refused r =>
    cases (State.debugBoundary_of_refused hstep).symm.trans h
    rfl

theorem State.evalAfter_bps (s t : State) : (s.evalAfter t).dbg.bps = t.dbg.bps := by
  unfold State.evalAfter
  split <;> rfl

/-- The loop returns at a breakpoint of the state it began in, in the state whose PC is on it, before the instruction there has run. -/
theorem runLoop_atBreakpoint {a : Word} (h : runLoop stop fuel k resume s = .returned (.atBreakpoint a) t) :
    a ∈ s.dbg.bps ∧ ∃ u : State, u.pc = a ∧ u.halted = false ∧ t = u.stoppedAt a := by
  induction fuel generalizing k resume s with
  | zero => cases h
  | succ fuel ih =>
    rw [runLoop] at h
    split at h
    · cases h
    · split at h
      next hb =>
        obtain ⟨hh, hbp, -⟩ := State.onBreakpoint_iff.mp hb
        cases h
        exact ⟨hbp, s, rfl, hh, rfl⟩
      next =>
        split at h
        next => cases h
        next u hu =>
          split at h
          next ret hret =>
            cases h
            obtain ⟨r, hr⟩ | ⟨r, hr⟩ := State.markReturn_cases hret
            · cases hr
            · cases hr
          next =>
            dsimp only at h
            split at h
            · cases h
            · obtain ⟨ha, hstate⟩ := ih h
              rw [State.evalAfter_bps, State.debugBoundary_bps hu] at ha
              exact ⟨ha, hstate⟩

/-- The same of `run()`, whose loop begins in the state given, but for the mode. -/
theorem State.debugRun_atBreakpoint {a : Word} (h : s.debugRun stop fuel = .returned (.atBreakpoint a) t) :
    a ∈ s.dbg.bps ∧ ∃ u : State, u.pc = a ∧ u.halted = false ∧ t = u.stoppedAt a := by
  cases hmark : s.markReturn with
  | some ret =>
    cases (State.debugRun_of_mark hmark stop fuel).symm.trans h
    obtain ⟨r, hr⟩ | ⟨r, hr⟩ := State.markReturn_cases hmark
    · cases hr
    · cases hr
  | none =>
    rw [State.debugRun, hmark] at h
    exact runLoop_atBreakpoint (s := s.setMode .running) h

end

/-- Settles O60: what `run()` returns at a breakpoint is `debugRun_atBreakpoint`, and a boundary of its loop is `runLoop_of_breakpoint`
or `runLoop_of_next`. -/
theorem runStopsBeforeTheBreakpoint : Obligations.RunStopsBeforeTheBreakpoint := by
  refine ⟨fun s t stop fuel a h => ?_, fun s stop fuel hf hr h0 hh hbp hresume => ?_,
    fun s stop fuel k resume hk => ⟨fun hh hbp hresume => runLoop_of_breakpoint hk ⟨hh, hbp, hresume⟩,
      fun hgo t hstep hf hr hfired => runLoop_of_next hk ?_ hstep hf hr hfired⟩⟩
  · obtain ⟨hbp, u, hpc, hh, rfl⟩ := State.debugRun_atBreakpoint h
    exact ⟨hpc, hbp, hh, rfl, rfl⟩
  · have hskip : (if s.dbg.mode = .stoppedAtBreakpoint then s.dbg.stopBp else none) ≠ some s.pc := by
      intro h
      obtain ⟨hmode, hpc⟩ := Option.ite_none_right_eq_some.mp h
      exact hresume ⟨hmode, hpc⟩
    rw [State.debugRun, State.markReturn_eq_none.mpr ⟨hf, hr⟩]
    exact runLoop_of_breakpoint (s := s.setMode .running) h0 ⟨hh, hbp, hskip⟩
  · rintro ⟨hh, hbp, hresume⟩
    simp [hh, hbp, hresume] at hgo

end Sys2Proof.Machine

/-!
SUPPORT. The decoder and the encoder (30_encoding.md): the fields of an opcode byte, the bytes that stand in memory, the entries of
the opcode maps in both directions, the bytes DD and FD and the ED holes; with them the statements O9 to O13 settled.
-/

namespace Sys2Proof

/-! ### The fields of an opcode byte (R142) -/

section
variable {x y z : Nat}

theorem opc_toNat (hx : x < 4) (hy : y < 8) (hz : z < 8) : (opc x y z).toNat = 64 * x + 8 * y + z := by
  rw [opc, BitVec.toNat_ofNat]; omega

theorem fieldX_opc (hx : x < 4) (hy : y < 8) (hz : z < 8) : fieldX (opc x y z) = x := by
  rw [fieldX, opc_toNat hx hy hz]; omega

theorem fieldY_opc (hx : x < 4) (hy : y < 8) (hz : z < 8) : fieldY (opc x y z) = y := by
  rw [fieldY, opc_toNat hx hy hz]; omega

theorem fieldZ_opc (hx : x < 4) (hy : y < 8) (hz : z < 8) : fieldZ (opc x y z) = z := by
  rw [fieldZ, opc_toNat hx hy hz]; omega

end

/-- Every byte is an opcode byte with some fields (R142). -/
theorem exists_opc (op : Byte) : ∃ x < 4, ∃ y < 8, ∃ z < 8, opc x y z = op := by
  have := op.isLt
  refine ⟨op.toNat / 64, by omega, op.toNat / 8 % 8, by omega, op.toNat % 8, by omega, ?_⟩
  apply BitVec.eq_of_toNat_eq
  rw [opc_toNat (by omega) (by omega) (by omega)]
  omega

theorem bit_cases : ∀ b : BitVec 3, b = 0 ∨ b = 1 ∨ b = 2 ∨ b = 3 ∨ b = 4 ∨ b = 5 ∨ b = 6 ∨ b = 7 := by decide

/-! ### Bytes that stand in memory -/

/-- The bytes stand in memory from the address on, wrapping (R141). -/
def Stands (rd : Word → Byte) (p : Word) (bytes : List Byte) : Prop :=
  ∀ k, k < bytes.length → bytes[k]? = some (rd (p + BitVec.ofNat 16 k))

section
variable {rd : Word → Byte} {p : Word}

theorem stands_nil : Stands rd p [] := fun _ hk => absurd hk (Nat.not_lt_zero _)

theorem stands_cons {b : Byte} {bs : List Byte} : Stands rd p (b :: bs) ↔ rd p = b ∧ Stands rd (p + 1) bs := by
  constructor
  · intro h
    refine ⟨by simpa using (h 0 (by simp)).symm, fun k hk => ?_⟩
    rw [← word_succ]
    exact h (k + 1) (by simpa using hk)
  · rintro ⟨rfl, h⟩ k hk
    cases k with
    | zero => simp
    | succ k =>
      rw [word_succ]
      exact h k (by simpa using hk)

theorem stands_append {as bs : List Byte} :
    Stands rd p (as ++ bs) ↔ Stands rd p as ∧ Stands rd (p + BitVec.ofNat 16 as.length) bs := by
  induction as generalizing p with
  | nil => simp [stands_nil]
  | cons a as ih => rw [List.cons_append, stands_cons, stands_cons, ih, List.length_cons, word_succ, and_assoc]

theorem Stands.of_prefix {as bs : List Byte} (h : Stands rd p bs) (hp : as <+: bs) : Stands rd p as := by
  obtain ⟨cs, rfl⟩ := hp
  exact (stands_append.mp h).1

theorem word_add_one_one (p : Word) : p + 1 + 1 = p + 2 := BitVec.add_assoc p 1 1

theorem word_add_two_one (p : Word) : p + 2 + 1 = p + 3 := BitVec.add_assoc p 2 1

theorem stands_window (rd : Word → Byte) (p : Word) : Stands rd p [rd p, rd (p + 1), rd (p + 2), rd (p + 3)] := by
  simp only [stands_cons, stands_nil, word_add_one_one, word_add_two_one, and_self]

end

/-! ### From bytes to forms: each entry of a map encodes to the bytes it is read from

Each lemma evaluates the entries of a map, or of its quarter x (R142), at every y and z, with the bytes after the opcode byte
free. -/

/-- The form is well formed, has the index register, if any, and its encoding begins the bytes. -/
def ReadFrom (x : Option Idx) (bytes : List Byte) (i : Instr) : Prop := i.wf = true ∧ i.index = x ∧ encode i <+: bytes

/-- The bytes that are no opcode byte of the unprefixed map (R144). -/
def prefixBytes : List Byte := [0xCB, 0xDD, 0xED, 0xFD]

section
variable {fx y z : Nat} {n n2 : Byte}

theorem uMap0_reads (hy : y < 8) (hz : z < 8) (nn : Word) :
    ReadFrom none [opc 0 y z, lo nn, hi nn] (uMap0 y z (lo nn) nn) := by
  interval_cases y <;> interval_cases z <;> exact ⟨rfl, rfl, _, rfl⟩

theorem uMap3_reads (hy : y < 8) (hz : z < 8) (nn : Word) :
    opc 3 y z ∈ prefixBytes ∨ ReadFrom none [opc 3 y z, lo nn, hi nn] (uMap3 y z (lo nn) nn) := by
  interval_cases y <;> interval_cases z <;> first | exact .inr ⟨rfl, rfl, _, rfl⟩ | exact .inl (by decide)

theorem uMap_reads {op : Byte} (n n2 : Byte) (hop : op ∉ prefixBytes) : ReadFrom none [op, n, n2] (uMap op n n2) := by
  obtain ⟨fx, hx, y, hy, z, hz, rfl⟩ := exists_opc op
  have h0 := uMap0_reads hy hz (join n2 n)
  have h3 := (uMap3_reads hy hz (join n2 n)).resolve_left
  rw [lo_join, hi_join] at h0 h3
  simp only [uMap, fieldX_opc hx hy hz, fieldY_opc hx hy hz, fieldZ_opc hx hy hz]
  interval_cases fx
  · exact h0
  · interval_cases y <;> interval_cases z <;> exact ⟨rfl, rfl, _, rfl⟩
  · interval_cases y <;> interval_cases z <;> exact ⟨rfl, rfl, _, rfl⟩
  · exact h3 hop

theorem cbMap_reads (op : Byte) : ReadFrom none [0xCB, op] (cbMap op) := by
  obtain ⟨fx, hx, y, hy, z, hz, rfl⟩ := exists_opc op
  simp only [cbMap, fieldX_opc hx hy hz, fieldY_opc hx hy hz, fieldZ_opc hx hy hz]
  interval_cases fx <;> interval_cases y <;> interval_cases z <;> exact ⟨rfl, rfl, _, rfl⟩

theorem edMap1_reads (hy : y < 8) (hz : z < 8) (nn : Word) :
    ReadFrom none [0xED, opc 1 y z, lo nn, hi nn] (edMap1 (opc 1 y z) y z nn) := by
  interval_cases y <;> interval_cases z <;> exact ⟨rfl, rfl, _, rfl⟩

theorem edMap_reads (op n n2 : Byte) : ReadFrom none [0xED, op, n, n2] (edMap op n n2) := by
  obtain ⟨fx, hx, y, hy, z, hz, rfl⟩ := exists_opc op
  have h1 := edMap1_reads hy hz (join n2 n)
  rw [lo_join, hi_join] at h1
  simp only [edMap, fieldX_opc hx hy hz, fieldY_opc hx hy hz, fieldZ_opc hx hy hz]
  interval_cases fx
  · interval_cases y <;> interval_cases z <;> exact ⟨rfl, rfl, _, rfl⟩
  · exact h1
  · interval_cases y <;> interval_cases z <;> exact ⟨rfl, rfl, _, rfl⟩
  · interval_cases y <;> interval_cases z <;> exact ⟨rfl, rfl, _, rfl⟩

variable {x : Idx} {i : Instr}

theorem xdMap0_reads (hy : y < 8) (hz : z < 8) (h : xdMap0 x y z n n2 = some i) :
    ReadFrom (some x) [x.code, opc 0 y z, n, n2] i := by
  interval_cases y <;> interval_cases z <;> cases h <;> refine ⟨rfl, rfl, ?_⟩ <;>
    simp only [encode, lo_join, hi_join] <;> exact ⟨_, rfl⟩

theorem xdMap1_reads (hy : y < 8) (hz : z < 8) (h : xdMap1 x y z n = some i) :
    ReadFrom (some x) [x.code, opc 1 y z, n, n2] i := by
  interval_cases y <;> interval_cases z <;> cases h <;> exact ⟨rfl, rfl, _, rfl⟩

theorem xdMap3_reads (hy : y < 8) (hz : z < 8) (h : xdMap3 x y z = some i) :
    i = .prefixDDCB x ∧ opc 3 y z = 0xCB ∨ ReadFrom (some x) [x.code, opc 3 y z, n, n2] i := by
  interval_cases y <;> interval_cases z <;> cases h <;> first | exact .inr ⟨rfl, rfl, _, rfl⟩ | exact .inl ⟨rfl, rfl⟩

theorem xdMap_reads {op : Byte} (h : xdMap x op n n2 = some i) :
    i = .prefixDDCB x ∧ op = 0xCB ∨ ReadFrom (some x) [x.code, op, n, n2] i := by
  obtain ⟨fx, hx, y, hy, z, hz, rfl⟩ := exists_opc op
  simp only [xdMap, fieldX_opc hx hy hz, fieldY_opc hx hy hz, fieldZ_opc hx hy hz] at h
  interval_cases fx
  · exact .inr (xdMap0_reads hy hz h)
  · exact .inr (xdMap1_reads hy hz h)
  · right
    interval_cases y <;> interval_cases z <;> cases h <;> exact ⟨rfl, rfl, _, rfl⟩
  · exact xdMap3_reads hy hz h

theorem xdcbMap_reads (x : Idx) (d op : Byte) : ReadFrom (some x) [x.code, 0xCB, d, op] (xdcbMap x d op) := by
  obtain ⟨fx, hx, y, hy, z, hz, rfl⟩ := exists_opc op
  simp only [xdcbMap, fieldX_opc hx hy hz, fieldY_opc hx hy hz, fieldZ_opc hx hy hz]
  interval_cases fx <;> interval_cases y <;> interval_cases z <;> exact ⟨rfl, rfl, _, rfl⟩

end

/-! ### The decoder after the bytes DD and FD (R155) -/

section
variable {rd : Word → Byte} {p : Word} {x : Idx} {i : Instr}

/-- A byte that is no DD or FD byte is CB, ED or an opcode byte of the unprefixed map. -/
theorem prefixBytes_cases {op : Byte} (h : Idx.ofByte op = none) : op = 0xCB ∨ op = 0xED ∨ op ∉ prefixBytes := by
  revert op
  decide

theorem decodePlain_of_CB (h : rd p = 0xCB) : decodePlain rd p = cbMap (rd (p + 1)) := by
  unfold decodePlain
  rw [h]
  rfl

theorem decodePlain_of_ED (h : rd p = 0xED) : decodePlain rd p = edMap (rd (p + 1)) (rd (p + 2)) (rd (p + 3)) := by
  unfold decodePlain
  rw [h]
  rfl

theorem decodePlain_of_not_prefix (h : rd p ∉ prefixBytes) : decodePlain rd p = uMap (rd p) (rd (p + 1)) (rd (p + 2)) := by
  obtain ⟨hwf, -, -⟩ := uMap_reads (rd (p + 1)) (rd (p + 2)) h
  unfold decodePlain
  split <;> simp_all [Instr.wf]

theorem decodePlain_reads (h : Idx.ofByte (rd p) = none) :
    ReadFrom none [rd p, rd (p + 1), rd (p + 2), rd (p + 3)] (decodePlain rd p) := by
  obtain hop | hop | hop := prefixBytes_cases h
  · obtain ⟨hwf, hi, he⟩ := cbMap_reads (rd (p + 1))
    rw [decodePlain_of_CB hop, hop]
    exact ⟨hwf, hi, he.trans ⟨_, rfl⟩⟩
  · rw [decodePlain_of_ED hop, hop]
    exact edMap_reads _ _ _
  · obtain ⟨hwf, hi, he⟩ := uMap_reads (rd (p + 1)) (rd (p + 2)) hop
    rw [decodePlain_of_not_prefix hop]
    exact ⟨hwf, hi, he.trans ⟨_, rfl⟩⟩

/-- The indexed form at an address, read with index register `x`, if one stands there (R151, R154). -/
def decodeIndexed (rd : Word → Byte) (p : Word) (x : Idx) : Option Instr :=
  match xdMap x (rd p) (rd (p + 1)) (rd (p + 2)) with
  | some (.prefixDDCB x) => some (xdcbMap x (rd (p + 1)) (rd (p + 2)))
  | i => i

/-- After bytes DD and FD the last one selects its register where an indexed form stands, and is wasted elsewhere (R153,
R155). -/
theorem decodeAfter_snoc (rd : Word → Byte) (p : Word) (ws : List Idx) (x : Idx) :
    decodeAfter rd p (ws ++ [x]).reverse =
      match decodeIndexed rd p x with
      | some i => ⟨ws, i⟩
      | none => ⟨ws ++ [x], decodePlain rd p⟩ := by
  rw [List.reverse_append, List.reverse_singleton, List.singleton_append]
  simp only [decodeAfter, decodeIndexed]
  cases xdMap x (rd p) (rd (p + 1)) (rd (p + 2)) with
  | none => simp
  | some i => cases i <;> simp

theorem decodeIndexed_reads (h : decodeIndexed rd p x = some i) :
    ReadFrom (some x) [x.code, rd p, rd (p + 1), rd (p + 2)] i := by
  unfold decodeIndexed at h
  split at h
  next y hy =>
    cases h
    obtain ⟨hddcb, hop⟩ | ⟨hwf, -, -⟩ := xdMap_reads hy
    · cases hddcb
      rw [hop]
      exact xdcbMap_reads _ _ _
    · cases hwf
  next hne =>
    obtain ⟨hddcb, -⟩ | hi := xdMap_reads h
    · exact absurd (hddcb ▸ h) (hne x)
    · exact hi

/-- A DD or FD byte selects its register before an indexed byte or CB only, whatever bytes come after (R151): by evaluation
at every byte, with those bytes free, which `decide` does not take. -/
theorem xdMap_isSome (x : Idx) (n n2 : Byte) :
    ∀ op : Byte, (xdMap x op n n2).isSome = (isIndexedByte op || op == 0xCB) := of_decide_eq_true rfl

theorem decodeIndexed_isSome (rd : Word → Byte) (p : Word) (x : Idx) :
    (decodeIndexed rd p x).isSome = (isIndexedByte (rd p) || rd p == 0xCB) := by
  rw [← xdMap_isSome x (rd (p + 1)) (rd (p + 2)), decodeIndexed]
  split <;> simp_all

theorem decodeIndexed_eq_none : decodeIndexed rd p x = none ↔ (isIndexedByte (rd p) || rd p == 0xCB) = false := by
  rw [← decodeIndexed_isSome rd p x, Option.isSome_eq_false_iff, Option.isNone_iff_eq_none]

/-! ### From forms to bytes: where the bytes of a form stand, it is decoded -/

/-- The entry of the ED map is a hole for the listed bytes only, whatever bytes come after (R149, R150): by evaluation at every
byte, with those bytes free. -/
theorem edMap_eq_hole (n n2 : Byte) : ∀ op : Byte, edMap op n n2 = .nopEdHole op ↔ isEdHole op = true :=
  of_decide_eq_true rfl

/-- Where the bytes of an unindexed form stand, with no DD or FD byte before them, it is decoded. -/
theorem decodePlain_of_stands (hwf : i.wf = true) (hi : i.index = none) (h : Stands rd p (encode i)) :
    decodePlain rd p = i := by
  cases i <;> try first | (cases hi; done) | (cases hwf; done)
  all_goals
    simp only [encode, stands_cons, stands_nil, and_true, word_add_one_one, word_add_two_one] at h
    simp only [decodePlain, h]
    clear h
  case nopEdHole op => exact (edMap_eq_hole _ _ op).mpr hwf
  case incR r | decR r | ldRN r n | ldRHlInd r | ldHlIndR r | addAR r | adcAR r | subR r | sbcAR r | andR r | xorR r | orR r
      | cpR r | rlcR r | rrcR r | rlR r | rrR r | slaR r | sraR r | sllR r | srlR r | inRC r | outCR r => cases r <;> rfl
  case ldRR y z => cases y <;> cases z <;> rfl
  case incSs ss | decSs ss | addHlSs ss | sbcHlSs ss | adcHlSs ss => cases ss <;> rfl
  case popQq qq | pushQq qq => cases qq <;> rfl
  case jrCc cc e | retCc cc => cases cc <;> rfl
  case ldDdNn dd nn | ldNnIndDd dd nn | ldDdNnInd dd nn => cases dd <;> exact congrArg _ (join_hi_lo nn)
  case jpCcNn cc nn | callCcNn cc nn => cases cc <;> exact congrArg _ (join_hi_lo nn)
  case ldNnIndHl nn | ldHlNnInd nn | ldNnIndA nn | ldANnInd nn | jpNn nn | callNn nn => exact congrArg _ (join_hi_lo nn)
  case rst b | bitBHlInd b | resBHlInd b | setBHlInd b =>
    rcases bit_cases b with rfl | rfl | rfl | rfl | rfl | rfl | rfl | rfl <;> rfl
  case bitBR b r | resBR b r | setBR b r =>
    rcases bit_cases b with rfl | rfl | rfl | rfl | rfl | rfl | rfl | rfl <;> cases r <;> rfl
  case negMirror b | retnMirror b | imMirror b =>
    revert b
    exact of_decide_eq_true rfl
  all_goals rfl

theorem encode_of_index {x : Idx} (hi : i.index = some x) : encode i = x.code :: (encode i).tail := by
  cases i <;> cases hi <;> rfl

theorem decodeIndexed_of_stands {x : Idx} (hwf : i.wf = true) (hi : i.index = some x)
    (h : Stands rd p (encode i).tail) : decodeIndexed rd p x = some i := by
  cases i <;> try first | (cases hi; done) | (cases hwf; done)
  all_goals
    simp only [encode, List.tail_cons, stands_cons, stands_nil, and_true, word_add_one_one] at h
    simp only [decodeIndexed, h]
    cases hi
    clear h
  case addIxPp pp => cases pp <;> rfl
  case ldIxNn nn | ldNnIndIx nn | ldIxNnInd nn => exact congrArg (some ∘ _) (join_hi_lo nn)
  case ldHalves y z =>
    revert hwf
    cases y <;> cases z <;> first | exact fun _ => rfl | exact nofun
  case incHalf h | decHalf h | ldHalfN h n | addAHalf h | adcAHalf h | subHalf h | sbcAHalf h | andHalf h | xorHalf h | orHalf h
      | cpHalf h => cases h <;> rfl
  case ldRIxd r d | ldIxdR d r | rlcIxdR d r | rrcIxdR d r | rlIxdR d r | rrIxdR d r | slaIxdR d r | sraIxdR d r | sllIxdR d r
      | srlIxdR d r => cases r <;> rfl
  case bitBIxd b d | resBIxd b d | setBIxd b d =>
    rcases bit_cases b with rfl | rfl | rfl | rfl | rfl | rfl | rfl | rfl <;> rfl
  case bitBIxdZ b d r | resBIxdR b d r | setBIxdR b d r =>
    rcases bit_cases b with rfl | rfl | rfl | rfl | rfl | rfl | rfl | rfl <;> cases r <;> rfl
  all_goals rfl

/-! ### The bytes DD and FD and the instruction together -/

theorem stands_map_code {xs : List Idx} :
    Stands rd p (xs.map Idx.code) ↔ ∀ k x, xs[k]? = some x → rd (p + BitVec.ofNat 16 k) = x.code := by
  constructor
  · intro h k x hk
    have hlt := (List.getElem?_eq_some_iff.mp hk).1
    have := h k (by simpa using hlt)
    rw [List.getElem?_map, hk] at this
    exact (Option.some.inj this).symm
  · intro h k hk
    have hlt : k < xs.length := by simpa using hk
    rw [List.getElem?_map, List.getElem?_eq_getElem hlt, h k _ (List.getElem?_eq_getElem hlt)]
    rfl

theorem encode_ne_nil (i : Instr) : encode i ≠ [] := by cases i <;> exact nofun

theorem encode_length (i : Instr) : (encode i).length = i.info.length := by cases i <;> rfl

theorem Decoded.encode_length (d : Decoded) : d.encode.length = d.length := by
  simp [Decoded.encode, Decoded.length, Sys2Proof.encode_length]

theorem Decoded.wf_of_index {ws : List Idx} (hi : i.index = some x) :
    (Decoded.mk ws i).wf = true ↔ i.wf = true ∧ ws.length + 1 < Config.prefixLimit := by
  simp [Decoded.wf, hi]

theorem Decoded.wf_of_no_index {ws : List Idx} (hi : i.index = none) :
    (Decoded.mk ws i).wf = true ↔
      i.wf = true ∧ ws.length < Config.prefixLimit ∧
        (ws = [] ∨ ∃ op rest, Sys2Proof.encode i = op :: rest ∧ (isIndexedByte op || op == 0xCB) = false) := by
  cases he : Sys2Proof.encode i with
  | nil => exact absurd he (encode_ne_nil i)
  | cons op rest => simp [Decoded.wf, hi, he, and_assoc]

/-- No DD or FD byte begins a form that has no index register. -/
theorem ofByte_of_stands (hwf : i.wf = true) (hi : i.index = none) (h : Stands rd p (encode i)) : Idx.ofByte (rd p) = none := by
  cases hb : Idx.ofByte (rd p) with
  | none => rfl
  | some y =>
    have hd := decodePlain_of_stands hwf hi h
    rw [decodePlain, (Idx.ofByte_eq_some _ _).mp hb] at hd
    subst hd
    cases y <;> cases hwf

/-- No DD or FD byte stands after the one that selects the register of an indexed form. -/
theorem ofByte_of_decodeIndexed (h : decodeIndexed rd p x = some i) : Idx.ofByte (rd p) = none := by
  cases hb : Idx.ofByte (rd p) with
  | none => rfl
  | some y =>
    have hs := decodeIndexed_isSome rd p x
    rw [h, (Idx.ofByte_eq_some _ _).mp hb] at hs
    cases y <;> cases hs

theorem word_snoc (p : Word) (ws : List Idx) (x : Idx) :
    p + BitVec.ofNat 16 (ws ++ [x]).length = p + BitVec.ofNat 16 ws.length + 1 := by
  rw [List.length_append, BitVec.ofNat_add, ← BitVec.add_assoc]
  rfl

/-- Decode of an encoding (R155): a form without an index register stands after the wasted bytes DD and FD, and one with an index
register after one DD or FD byte more. -/
theorem decodeFrom_of_stands {d : Decoded} (hwf : d.wf = true) (h : Stands rd p d.encode) : decodeFrom rd p = .ok d := by
  obtain ⟨ws, i⟩ := d
  obtain ⟨hws, hform⟩ := stands_append.mp h
  rw [List.length_map] at hform
  refine (decodeScan_eq_ok _ _ _ _ _).mpr ?_
  cases hi : i.index with
  | none =>
    obtain ⟨hiwf, hlen, hfirst⟩ := (Decoded.wf_of_no_index hi).mp hwf
    have hd := decodePlain_of_stands hiwf hi hform
    refine ⟨ws, hlen, stands_map_code.mp hws, ofByte_of_stands hiwf hi hform, ?_⟩
    rw [List.append_nil]
    obtain rfl | ⟨ys, x, rfl⟩ := ws.eq_nil_or_concat'
    · exact congrArg (Decoded.mk []) hd.symm
    · obtain ⟨op, rest, he, hop⟩ := hfirst.resolve_left (by simp)
      rw [he, stands_cons] at hform
      rw [decodeAfter_snoc, decodeIndexed_eq_none.mpr (hform.1 ▸ hop), hd]
  | some x =>
    obtain ⟨hiwf, hlen⟩ := (Decoded.wf_of_index hi).mp hwf
    rw [encode_of_index hi, stands_cons] at hform
    obtain ⟨hx, hrest⟩ := hform
    have hd := decodeIndexed_of_stands hiwf hi hrest
    refine ⟨ws ++ [x], by simpa using hlen, stands_map_code.mp ?_, ?_, ?_⟩
    · rw [List.map_append, stands_append, List.length_map]
      exact ⟨hws, stands_cons.mpr ⟨hx, stands_nil⟩⟩
    · rw [word_snoc]
      exact ofByte_of_decodeIndexed hd
    · rw [word_snoc, List.append_nil, decodeAfter_snoc, hd]

/-- What decode answers after the bytes DD and FD `xs` is well formed, and its encoding stands where the first of them does. -/
theorem decodeAfter_reads {xs : List Idx} {q : Word} (hq : p + BitVec.ofNat 16 xs.length = q)
    (hlen : xs.length < Config.prefixLimit) (hxs : Stands rd p (xs.map Idx.code)) (hnone : Idx.ofByte (rd q) = none) :
    (decodeAfter rd q xs.reverse).wf = true ∧ Stands rd p (decodeAfter rd q xs.reverse).encode := by
  obtain ⟨hwf, hi, he⟩ := decodePlain_reads hnone
  have hplain := (stands_window rd q).of_prefix he
  have hall : Stands rd p (Decoded.encode ⟨xs, decodePlain rd q⟩) :=
    stands_append.mpr ⟨hxs, by rwa [List.length_map, hq]⟩
  obtain rfl | ⟨ys, x, rfl⟩ := xs.eq_nil_or_concat'
  · exact ⟨(Decoded.wf_of_no_index hi).mpr ⟨hwf, hlen, .inl rfl⟩, hall⟩
  · rw [decodeAfter_snoc]
    cases hd : decodeIndexed rd q x with
    | none =>
      obtain ⟨op, rest, hfirst⟩ := List.exists_cons_of_ne_nil (encode_ne_nil (decodePlain rd q))
      rw [hfirst, stands_cons] at hplain
      exact ⟨(Decoded.wf_of_no_index hi).mpr
        ⟨hwf, hlen, .inr ⟨op, rest, hfirst, hplain.1 ▸ decodeIndexed_eq_none.mp hd⟩⟩, hall⟩
    | some i =>
      obtain ⟨hwf, hi, he⟩ := decodeIndexed_reads hd
      rw [List.map_append, stands_append, List.length_map] at hxs
      obtain ⟨hys, hx⟩ := hxs
      refine ⟨(Decoded.wf_of_index hi).mpr ⟨hwf, by simpa using hlen⟩, stands_append.mpr ⟨hys, Stands.of_prefix ?_ he⟩⟩
      rw [word_snoc] at hq
      rw [List.length_map, stands_cons, hq]
      exact ⟨(stands_cons.mp hx).1, (stands_window rd q).of_prefix ⟨_, rfl⟩⟩

end

/-- Settles O10: the bytes of the encoding stand in memory, and where they stand they are decoded. -/
theorem decodeReturnsEveryEncodedInstruction : Obligations.DecodeReturnsEveryEncodedInstruction :=
  fun d _ _ hwf h => ⟨decodeFrom_of_stands hwf fun k hk => (h k hk).symm, d.encode_length⟩

/-- Settles O11: what decode answers is read from its own bytes (`decodeAfter_reads`), and another memory where these bytes stand
decodes to it again (`decodeFrom_of_stands`). -/
theorem decodedInstructionEncodesToTheBytesRead : Obligations.DecodedInstructionEncodesToTheBytesRead := by
  intro d rd pc h
  obtain ⟨xs, hlen, hxs, hnone, hd⟩ := (decodeScan_eq_ok _ _ _ _ _).mp h
  rw [List.append_nil] at hd
  obtain ⟨hwf, hstands⟩ := decodeAfter_reads rfl hlen (stands_map_code.mpr hxs) hnone
  rw [← hd] at hwf hstands
  refine ⟨hwf, hstands, fun rd' hrd => decodeFrom_of_stands hwf fun k hk => ?_⟩
  rw [hrd k (d.encode_length ▸ hk)]
  exact hstands k hk

/-! ### Sample words -/

/-- Settles O9: each word is decoded by evaluation. -/
theorem sampleWordsDecodeToTheirForms : Obligations.SampleWordsDecodeToTheirForms := by
  refine ⟨?_, ?_, ?_, ?_, ?_, ?_, ?_, ?_, ?_⟩ <;> decide

end Sys2Proof

namespace Sys2Proof.Machine

/-! ### Counting bytes -/

theorem countP_range_add (f : Nat → Bool) (m n : Nat) :
    (List.range (m + n)).countP f = (List.range m).countP f + (List.range n).countP (fun k => f (m + k)) := by
  rw [List.range_add, List.countP_append, List.countP_map]
  rfl

/-- The bytes counted by the four quarters of the opcode map, the x field of R142. -/
theorem countP_range_quarters (f : Nat → Bool) :
    (List.range 256).countP f = (List.range 64).countP f + (List.range 64).countP (fun k => f (64 + k)) +
      ((List.range 64).countP (fun k => f (128 + k)) + (List.range 64).countP (fun k => f (128 + (64 + k)))) :=
  (countP_range_add f (64 + 64) (64 + 64)).trans (congrArg₂ (· + ·) (countP_range_add f 64 64) (countP_range_add _ 64 64))

/-! ### The bytes DD and FD (R151, R156) -/

/-- Settles O12: an endless chain has a DD or FD byte at every address, and a scan that returns has met another byte. -/
theorem prefixBytesSelectAnIndexRegisterOrHang : Obligations.PrefixBytesSelectAnIndexRegisterOrHang := by
  refine ⟨fun x op n n2 => xdMap_isSome x n n2 op, (countP_range_quarters _).trans (by decide),
    fun rd pc => ⟨dd_or_fd_of_decodeFrom_hangs, fun h => ?_⟩⟩
  cases hd : decodeFrom rd pc with
  | prefixHang => rfl
  | ok d =>
    obtain ⟨xs, -, -, hnone, -⟩ := (decodeScan_eq_ok _ _ _ _ _).mp hd
    obtain hb | hb := h (pc + BitVec.ofNat 16 xs.length)
    · rw [hb] at hnone
      cases hnone
    · rw [hb] at hnone
      cases hnone

/-! ### The ED holes (R150) -/

theorem isEdHole_iff (op : Byte) : isEdHole op = true ↔
    op.toNat ≤ 0x3F ∨ op = 0x77 ∨ op = 0x7F ∨ (0x80 ≤ op.toNat ∧ op.toNat ≤ 0x9F) ∨ (0xA4 ≤ op.toNat ∧ op.toNat ≤ 0xA7) ∨
    (0xAC ≤ op.toNat ∧ op.toNat ≤ 0xAF) ∨ (0xB4 ≤ op.toNat ∧ op.toNat ≤ 0xB7) ∨ (0xBC ≤ op.toNat ∧ op.toNat ≤ 0xBF) ∨
    0xC0 ≤ op.toNat := by
  have h77 : op.toNat = 0x77 ↔ op = 0x77 := BitVec.toNat_inj (y := 0x77#8)
  have h7F : op.toNat = 0x7F ↔ op = 0x7F := BitVec.toNat_inj (y := 0x7F#8)
  simp [isEdHole, h77, h7F, or_assoc]

theorem decodeFrom_of_no_prefix {rd : Word → Byte} {pc : Word} (h : Idx.ofByte (rd pc) = none) :
    decodeFrom rd pc = .ok ⟨[], decodePlain rd pc⟩ := by
  simp only [decodeFrom, Config.prefixLimit, decodeScan, h, decodeAfter]

/-- A hole has no body (R150). -/
theorem exec_nopEdHole (op : Byte) (s : State) : exec (.nopEdHole op) s = .next (s.advance 2 2 8) := State.done_fetch s 2 2 8

/-- Settles O13: the holes are the entries of the ED map (`edMap_eq_hole`), and a hole is an instruction without a body. -/
theorem edHolesAreTheListedBytesAndDoNothing : Obligations.EdHolesAreTheListedBytesAndDoNothing := by
  refine ⟨fun op n n2 => edMap_eq_hole n n2 op, isEdHole_iff, (countP_range_quarters _).trans (by decide),
    fun rd pc hED hhole => ?_, exec_nopEdHole⟩
  rw [decodeFrom_of_no_prefix (by rw [hED]; rfl), decodePlain_of_ED hED, (edMap_eq_hole _ _ _).mpr hhole]

end Sys2Proof.Machine

/-!
SUPPORT. Completion and cost (R141, R157, R160): the meaning of every instruction completes at one of the two costs of its row; with
it the statement O6 settled.
-/

namespace Sys2Proof.Machine

/-- A meaning run in `s` that completes at one of the two costs of the instruction's row (R157). -/
def CompletesAtCost (i : Instr) (s : State) (r : Result) : Prop :=
  ∃ t, r = .next t ∧ (t.clock = s.clock + i.info.t ∨ t.clock = s.clock + i.info.tTaken)

section
variable {i : Instr} {s u v : State}

theorem completesAtCost_done (hu : u.clock = s.clock) : CompletesAtCost i s (u.done i.info.t) :=
  ⟨_, rfl, .inl (congrArg (· + i.info.t) hu)⟩

theorem completesAtCost_done_taken (hu : u.clock = s.clock) : CompletesAtCost i s (u.done i.info.tTaken) :=
  ⟨_, rfl, .inr (congrArg (· + i.info.tTaken) hu)⟩

theorem completesAtCost_branch {holds : Bool} (hu : u.clock = s.clock) (hv : v.clock = s.clock) :
    CompletesAtCost i s (v.branch holds u i.info.t i.info.tTaken) := by
  unfold State.branch
  split
  · exact completesAtCost_done_taken hu
  · exact completesAtCost_done hv

/-- Both ends of an iteration of a block form that may repeat (R280). -/
theorem completesAtCost_endIteration {again : Bool} {draws : Byte} (ht : i.info.t = 16) (htaken : i.info.tTaken = 21)
    (hu : u.clock = s.clock) : CompletesAtCost i s (u.endIteration again draws) := by
  unfold State.endIteration
  split
  · exact htaken ▸ completesAtCost_done_taken (u := u.repeatBlock draws) hu
  · exact ht ▸ completesAtCost_done hu

end

/-- The meaning of an instruction completes at one of its costs, and an undocumented one stands under R160's test of UNDOC. -/
theorem exec_meaning (i : Instr) (s : State) :
    ∃ k, CompletesAtCost i s k ∧ exec i s = if i.info.documented then k else s.undocumented i.info.form k := by
  cases i
  case djnz | jrCc | retCc | jpCcNn | callCcNn =>
    refine ⟨_, completesAtCost_branch ?_ ?_, rfl⟩
    · simp
    · simp
  case cpir | cpdr | ldir | inir | otir | lddr | indr | otdr =>
    exact ⟨_, completesAtCost_endIteration rfl rfl (by simp), rfl⟩
  case ei => exact ⟨_, ⟨_, rfl, .inl rfl⟩, rfl⟩
  all_goals exact ⟨_, completesAtCost_done (by simp), rfl⟩

/-- Settles O6: the meaning completes at its cost (`exec_meaning`), and UNDOC says whether an undocumented form has it. -/
theorem everyInstructionCompletesAtItsCostOrIsRefused : Obligations.EveryInstructionCompletesAtItsCostOrIsRefused := by
  intro i s
  obtain ⟨k, hk, he⟩ := exec_meaning i s
  constructor
  · intro h
    rwa [he, show (if i.info.documented then k else s.undocumented i.info.form k) = k from ?_]
    split
    · rfl
    · next hdoc => exact State.undocumented_silicon (h.resolve_right hdoc) _ _
  · intro hs hdoc
    rw [he, hdoc, State.undocumented_refuse hs]
    rfl

end Sys2Proof.Machine

/-!
SUPPORT. The disassembler and the assembler (R158, R159, R162): the parts of a text, what tells the operands of a text apart, the
instructions that a text names, the first of them, and the other spellings; with them the statement O31 settled.
-/

namespace Sys2Proof.Machine

/-! ### The parts of a text (R158) -/

/-- A part of a text: neither the space after the mnemonic nor the comma between operands stands in it. -/
def Unseparated (t : List Char) : Prop := ' ' ∉ t ∧ ',' ∉ t

theorem splitAt_intercalate {c : Char} {ts : List (List Char)} (hne : ts ≠ []) (h : ∀ t ∈ ts, c ∉ t) :
    splitAt c ([c].intercalate ts) = ts := by
  induction ts with
  | nil => exact absurd rfl hne
  | cons t ts ih =>
    cases ts with
    | nil => simpa using splitAt_of_not_mem (h t (by simp))
    | cons u us =>
      rw [List.intercalate_cons_cons, List.append_assoc, List.singleton_append, splitAt_append (h t (by simp)),
        ih (by simp) fun v hv => h v (List.mem_cons_of_mem t hv)]

theorem not_mem_intercalate {c sep : Char} {ts : List (List Char)} (hc : c ≠ sep) (h : ∀ t ∈ ts, c ∉ t) :
    c ∉ [sep].intercalate ts := by
  induction ts with
  | nil => simp
  | cons t ts ih =>
    cases ts with
    | nil => simpa using h t (by simp)
    | cons u us =>
      have hrest := ih fun v hv => h v (List.mem_cons_of_mem t hv)
      simp [List.intercalate_cons_cons, hc, hrest, h t]

/-- The assembler reads a mnemonic and its operands one by one. -/
theorem assembleForms_joinText {name : String} {ts : List String} (hname : ' ' ∉ name.toList)
    (hts : ∀ t ∈ ts, Unseparated t.toList) :
    assembleForms (joinText name ts) = (choices (ts.map fun t => readings t.toList)).flatMap (formsNamed name) := by
  cases ts with
  | nil =>
    rw [assembleForms, show joinText name [] = name from rfl, splitAt_of_not_mem hname]
    simp [choices]
  | cons t us =>
    have hsplit : splitAt ' ' (joinText name (t :: us)).toList =
        [name.toList, [','].intercalate ((t :: us).map String.toList)] := by
      have hspace : ' ' ∉ [','].intercalate ((t :: us).map String.toList) :=
        not_mem_intercalate (by decide) (List.forall_mem_map.mpr fun u hu => (hts u hu).1)
      have hjoin : (joinText name (t :: us)).toList =
          name.toList ++ ' ' :: [','].intercalate ((t :: us).map String.toList) := by
        simp [joinText]
      rw [hjoin, splitAt_append hname, splitAt_of_not_mem hspace]
    have hops : splitAt ',' ([','].intercalate ((t :: us).map String.toList)) = (t :: us).map String.toList :=
      splitAt_intercalate (by simp) (List.forall_mem_map.mpr fun u hu => (hts u hu).2)
    rw [assembleForms, hsplit]
    simp only [hops, String.ofList_toList, List.map_map]
    rfl

/-! ### What tells the operands of a text apart (R158) -/

/-- What an operand's text looks like: it writes no number, or it writes a number in one of these ways. -/
inductive Shape where
  | fixed | offset | byte | word | port | address | indexed (x : Idx)

/-- Does the text write no number? -/
def Shape.isFixed : Shape → Bool
  | .fixed => true
  | _ => false

theorem Shape.isFixed_iff {k : Shape} : k.isFixed = true ↔ k = .fixed := by cases k <;> simp [isFixed]

/-- The look of a text. -/
def textShape : List Char → Shape
  | '$' :: _ => .offset
  | '0' :: 'x' :: digits => if digits.length = 2 then .byte else .word
  | '(' :: '0' :: digits => if digits.length = 4 then .port else .address
  | '(' :: 'I' :: 'X' :: _ :: _ :: _ => .indexed .ix
  | '(' :: 'I' :: 'Y' :: _ :: _ :: _ => .indexed .iy
  | _ => .fixed

/-- The look of an operand's text. -/
def Operand.shape : Operand → Shape
  | .rel _ => .offset
  | .imm8 _ | .raw _ | .restart _ => .byte
  | .imm16 _ => .word
  | .port _ => .port
  | .direct _ => .address
  | .indexed x _ => .indexed x
  | _ => .fixed

theorem fixedOperands_shape {o : Operand} (h : o ∈ fixedOperands) :
    o.shape = .fixed ∧ ∀ u ∈ operandTexts o, textShape u.toList = .fixed := by
  have all : ∀ o ∈ fixedOperands, o.shape.isFixed = true ∧ ∀ u ∈ operandTexts o, (textShape u.toList).isFixed = true := by
    decide
  simpa only [Shape.isFixed_iff] using all o h

theorem textShape_hexByte (b : Byte) : textShape (hexByte b).toList = .byte := by simp [textShape, hexByte]

theorem textShape_hexWord (w : Word) : textShape (hexWord w).toList = .word := by simp [textShape, hexWord]

theorem textShape_port (b : Byte) : textShape (operandText (.port b)).toList = .port := by
  simp [operandText, textShape, hexByte]

theorem textShape_direct (w : Word) : textShape (operandText (.direct w)).toList = .address := by
  simp [operandText, textShape, hexWord]

theorem textShape_indexed (x : Idx) (d : Byte) : textShape (operandText (.indexed x d)).toList = .indexed x := by
  simp only [operandText, signedHex]
  cases x <;> split <;> simp [textShape, idxName, hexByte]

theorem textShape_relText (e : Byte) : textShape (relText e).toList = .offset := by
  simp only [relText]
  split
  · rfl
  · split <;> simp [textShape]

theorem numericOperands_shape {o : Operand} {t : List Char} (h : o ∈ numericOperands t) :
    textShape (operandText o).toList = o.shape ∧ o.shape ≠ .fixed ∧ operandTexts o = [operandText o] := by
  simp only [numericOperands, List.mem_cons, List.not_mem_nil, or_false] at h
  obtain rfl | rfl | rfl | rfl | rfl | rfl | rfl | rfl | rfl := h
  · exact ⟨textShape_hexByte _, nofun, rfl⟩
  · exact ⟨textShape_hexByte _, nofun, rfl⟩
  · exact ⟨textShape_port _, nofun, rfl⟩
  · exact ⟨textShape_hexWord _, nofun, rfl⟩
  · exact ⟨textShape_direct _, nofun, rfl⟩
  · exact ⟨textShape_hexByte _, nofun, rfl⟩
  · exact ⟨textShape_indexed _ _, nofun, rfl⟩
  · exact ⟨textShape_indexed _ _, nofun, rfl⟩
  · exact ⟨textShape_relText _, nofun, rfl⟩

/-- A text looks as each of its readings does. -/
theorem textShape_of_reading {o : Operand} {t : List Char} (h : o ∈ readings t) : textShape t = o.shape := by
  obtain ⟨hmem, htext⟩ := mem_readings.mp h
  obtain hfixed | hnum := List.mem_append.mp hmem
  · obtain ⟨hshape, htexts⟩ := fixedOperands_shape hfixed
    rw [hshape, ← htexts _ htext, String.toList_ofList]
  · obtain ⟨hshape, -, htexts⟩ := numericOperands_shape hnum
    rw [htexts, List.mem_singleton] at htext
    rw [← hshape, ← htext, String.toList_ofList]

/-- Which of the operands of one text a mnemonic takes: `C` is a condition in the jumps and returns and a register elsewhere,
`BC` a pair of table rp2 in PUSH and POP, a digit a number in IM and OUT and a bit elsewhere, and a byte data in DB, an address
in RST and an immediate elsewhere. -/
inductive Role where
  | plain | condition | stackPair | number | data | restart

/-- The roles. -/
def Role.all : List Role := [.plain, .condition, .stackPair, .number, .data, .restart]

theorem Role.mem_all (k : Role) : k ∈ Role.all := by cases k <;> simp [Role.all]

/-- The role of a mnemonic. -/
def nameRole (name : String) : Role :=
  if ["JP", "CALL", "RET", "JR"].contains name then .condition
  else if ["PUSH", "POP"].contains name then .stackPair
  else if ["IM", "OUT"].contains name then .number
  else if name = "DB" then .data
  else if name = "RST" then .restart
  else .plain

/-- Does a mnemonic of the role take the operand? -/
def Operand.suits : Role → Operand → Bool
  | .condition, .reg _ => false
  | .condition, .cond _ => true
  | _, .cond _ => false
  | .stackPair, .pair _ | .stackPair, .pairAF => false
  | .stackPair, .pair2 _ => true
  | _, .pair2 _ => false
  | .number, .bit _ => false
  | .number, .lit n => n ≤ 2
  | _, .lit _ => false
  | .data, .raw _ => true
  | _, .raw _ => false
  | .restart, .restart _ => true
  | _, .restart _ => false
  | .data, .imm8 _ | .restart, .imm8 _ => false
  | _, .indPair .sp => false
  | _, _ => true

/-- Two operands without a number that share a text are one operand, or no mnemonic takes both. -/
theorem fixedOperands_unique : ∀ o ∈ fixedOperands, ∀ o' ∈ fixedOperands,
    ∀ u ∈ operandTexts o, u ∈ operandTexts o' → o = o' ∨ ∀ k ∈ Role.all, (o.suits k && o'.suits k) = false := by
  decide

/-- A text has one reading only that a mnemonic takes. -/
theorem readings_unique {k : Role} {o o' : Operand} {t : List Char} (h : o ∈ readings t) (h' : o' ∈ readings t)
    (hs : o.suits k = true) (hs' : o'.suits k = true) : o = o' := by
  have hshape : o.shape = o'.shape := (textShape_of_reading h).symm.trans (textShape_of_reading h')
  obtain ⟨hmem, htext⟩ := mem_readings.mp h
  obtain ⟨hmem', htext'⟩ := mem_readings.mp h'
  obtain hf | hn := List.mem_append.mp hmem <;> obtain hf' | hn' := List.mem_append.mp hmem'
  · obtain heq | hclash := fixedOperands_unique o hf o' hf' _ htext htext'
    · exact heq
    · have hk := hclash k (Role.mem_all k)
      simp [hs, hs'] at hk
  · exact absurd (hshape.symm.trans (fixedOperands_shape hf).1) (numericOperands_shape hn').2.1
  · exact absurd (hshape.trans (fixedOperands_shape hf').1) (numericOperands_shape hn).2.1
  · simp only [numericOperands, List.mem_cons, List.not_mem_nil, or_false] at hn hn'
    obtain rfl | rfl | rfl | rfl | rfl | rfl | rfl | rfl | rfl := hn <;>
      obtain rfl | rfl | rfl | rfl | rfl | rfl | rfl | rfl | rfl := hn' <;>
      simp_all [Operand.shape]
    all_goals cases k <;> simp [Operand.suits] at hs hs'

/-! ### No separator stands in a mnemonic or an operand (R158, R159) -/

theorem hexDigit_mem (n : Nat) : hexDigit n ∈ "0123456789ABCDEF".toList := by
  rw [hexDigit, List.getD_eq_getElem?_getD]
  cases h : "0123456789ABCDEF".toList[n]? with
  | none => decide
  | some c => exact List.mem_of_getElem? h

theorem ne_hexDigit {c : Char} (hc : c ∉ "0123456789ABCDEF".toList) (n : Nat) : c ≠ hexDigit n :=
  fun h => hc (h ▸ hexDigit_mem n)

theorem space_ne_hexDigit : ∀ n, ' ' ≠ hexDigit n := ne_hexDigit (by decide)

theorem comma_ne_hexDigit : ∀ n, ',' ≠ hexDigit n := ne_hexDigit (by decide)

theorem unseparated_hexByte (b : Byte) : Unseparated (hexByte b).toList := by
  simp [Unseparated, hexByte, space_ne_hexDigit, comma_ne_hexDigit]

theorem unseparated_hexWord (w : Word) : Unseparated (hexWord w).toList := by
  simp [Unseparated, hexWord, space_ne_hexDigit, comma_ne_hexDigit]

theorem unseparated_port (b : Byte) : Unseparated (operandText (.port b)).toList := by
  simpa [Unseparated, operandText] using unseparated_hexByte b

theorem unseparated_direct (w : Word) : Unseparated (operandText (.direct w)).toList := by
  simpa [Unseparated, operandText] using unseparated_hexWord w

theorem unseparated_decimal (n : Nat) : Unseparated (decimal n).toList := by
  unfold decimal
  split
  · simp [Unseparated, space_ne_hexDigit, comma_ne_hexDigit]
  · split <;> simp [Unseparated, space_ne_hexDigit, comma_ne_hexDigit]

theorem unseparated_relText (e : Byte) : Unseparated (relText e).toList := by
  simp only [relText]
  split
  · exact ⟨by decide, by decide⟩
  · split <;> simpa [Unseparated] using unseparated_decimal _

theorem unseparated_indexed (x : Idx) (d : Byte) : Unseparated (operandText (.indexed x d)).toList := by
  simp only [operandText, signedHex]
  cases x <;> split <;> simp [Unseparated, idxName, hexByte, space_ne_hexDigit, comma_ne_hexDigit]

theorem unseparated_fixedOperands : ∀ o ∈ fixedOperands, ∀ u ∈ operandTexts o, ' ' ∉ u.toList ∧ ',' ∉ u.toList := by
  decide

theorem unseparated_numericOperands {o : Operand} {t : List Char} (h : o ∈ numericOperands t) :
    Unseparated (operandText o).toList := by
  simp only [numericOperands, List.mem_cons, List.not_mem_nil, or_false] at h
  obtain rfl | rfl | rfl | rfl | rfl | rfl | rfl | rfl | rfl := h
  · exact unseparated_hexByte _
  · exact unseparated_hexByte _
  · exact unseparated_port _
  · exact unseparated_hexWord _
  · exact unseparated_direct _
  · exact unseparated_hexByte _
  · exact unseparated_indexed _ _
  · exact unseparated_indexed _ _
  · exact unseparated_relText _

theorem unseparated_of_reading {o : Operand} {t : List Char} (h : o ∈ readings t) {u : String} (hu : u ∈ operandTexts o) :
    Unseparated u.toList := by
  obtain hf | hn := List.mem_append.mp (mem_readings.mp h).1
  · exact unseparated_fixedOperands o hf u hu
  · rw [(numericOperands_shape hn).2.2, List.mem_singleton] at hu
    exact hu ▸ unseparated_numericOperands hn

theorem space_not_mem_instrName (i : Instr) : ' ' ∉ (instrName i).toList := by
  cases i <;> simp only [instrName] <;> decide

/-! ### The operands of an instruction and the readings of their texts -/

theorem instrOperands_suit (i : Instr) : (instrOperands i).all (Operand.suits (nameRole (instrName i))) = true := by
  cases i
  case addIxPp x pp => cases pp <;> rfl
  case ldHalves x y z => cases y <;> cases z <;> rfl
  case imMirror y => revert y; decide
  all_goals rfl

/-- A mnemonic takes every operand of its instruction. -/
theorem suits_of_mem_instrOperands {i : Instr} {o : Operand} (h : o ∈ instrOperands i) :
    o.suits (nameRole (instrName i)) = true := List.all_eq_true.mp (instrOperands_suit i) o h

theorem mem_readings_of_suits {k : Role} {o : Operand} (h : o.suits k = true) : o ∈ readings (operandText o).toList := by
  refine mem_readings_self ?_ ?_
  · rintro rfl
    cases k <;> cases h
  · rintro n rfl
    cases k <;> simp_all [Operand.suits]

theorem mem_choices {α : Type} {xs : List α} {ls : List (List α)} : xs ∈ choices ls ↔ List.Forall₂ (· ∈ ·) xs ls := by
  induction ls generalizing xs with
  | nil => simp [choices]
  | cons l ls ih =>
    cases xs with
    | nil => simp [choices]
    | cons x xs => simp [choices, ih]

/-- The readings of an instruction's operands, each of its text. -/
def operandReadings (i : Instr) : List (List Operand) := (instrOperands i).map fun o => readings (operandText o).toList

theorem instrOperands_mem_choices (i : Instr) : instrOperands i ∈ choices (operandReadings i) := by
  rw [mem_choices, operandReadings, List.forall₂_map_right_iff, List.forall₂_same]
  exact fun o ho => mem_readings_of_suits (suits_of_mem_instrOperands ho)

/-- `HX` and `LX` are read as IXH and IXL are (R159). -/
theorem readings_spelling {o : Operand} {u : String} (hu : u ∈ operandTexts o) :
    readings u.toList = readings (operandText o).toList := by
  unfold operandTexts at hu
  split at hu
  · revert u; decide
  · revert u; decide
  · rw [List.mem_singleton.mp hu]

/-- The spellings of operands are parts of a text, with the operands' readings. -/
theorem operandTexts_read {k : Role} {ops : List Operand} {ts : List String} (hs : ∀ o ∈ ops, o.suits k = true)
    (h : List.Forall₂ (fun t o => t ∈ operandTexts o) ts ops) :
    (∀ t ∈ ts, Unseparated t.toList) ∧
      ts.map (fun t => readings t.toList) = ops.map fun o => readings (operandText o).toList := by
  induction h with
  | nil => simp
  | @cons t o ts ops ht _ ih =>
    obtain ⟨hsep, hread⟩ := ih fun v hv => hs v (List.mem_cons_of_mem o hv)
    have hto := unseparated_of_reading (mem_readings_of_suits (hs o (List.mem_cons_self ..))) ht
    exact ⟨List.forall_mem_cons.mpr ⟨hto, hsep⟩, by rw [List.map_cons, List.map_cons, readings_spelling ht, hread]⟩

/-- Every spelling of an instruction's operands is read as they are (R159). -/
theorem assembleForms_spelling {i : Instr} {name : String} {ts : List String} (hname : ' ' ∉ name.toList)
    (hts : ts ∈ choices ((instrOperands i).map operandTexts)) :
    assembleForms (joinText name ts) = (choices (operandReadings i)).flatMap (formsNamed name) := by
  rw [mem_choices, List.forall₂_map_right_iff] at hts
  obtain ⟨hsep, hread⟩ := operandTexts_read (fun o ho => suits_of_mem_instrOperands ho) hts
  rw [assembleForms_joinText hname hsep, hread, operandReadings]

theorem operandText_mem_operandTexts (o : Operand) : operandText o ∈ operandTexts o := by
  unfold operandTexts
  split <;> simp [operandText, halfName]

theorem assembleForms_instrText (i : Instr) :
    assembleForms (instrText i) = (choices (operandReadings i)).flatMap (formsNamed (instrName i)) := by
  refine assembleForms_spelling (space_not_mem_instrName i) ?_
  rw [mem_choices, List.forall₂_map_right_iff, List.forall₂_map_left_iff, List.forall₂_same]
  exact fun o _ => operandText_mem_operandTexts o

/-! ### The instructions that a text names -/

/-- Readings of operands' texts that one mnemonic takes are the operands. -/
theorem eq_of_readings {k : Role} {ops own : List Operand}
    (h : List.Forall₂ (fun o o' => o ∈ readings (operandText o').toList) ops own) (hops : ∀ o ∈ ops, o.suits k = true)
    (hown : ∀ o ∈ own, o.suits k = true) : ops = own := by
  induction h with
  | nil => rfl
  | @cons o o' ops own ho _ ih =>
    obtain ⟨hso, hops⟩ := List.forall_mem_cons.mp hops
    obtain ⟨hso', hown⟩ := List.forall_mem_cons.mp hown
    rw [readings_unique ho (mem_readings_of_suits hso') hso hso', ih hops hown]

/-- The mnemonics that R159 accepts with `A,` have one operand. -/
theorem length_instrOperands_of_withA {i : Instr} (h : instrName i ∈ ["SUB", "AND", "XOR", "OR", "CP"]) :
    (instrOperands i).length = 1 := by
  have all : (["SUB", "AND", "XOR", "OR", "CP"].contains (instrName i) && (instrOperands i).length != 1) = false := by
    cases i <;> rfl
  rw [List.contains_iff_mem.mpr h, Bool.true_and, bne_eq_false_iff_eq] at all
  exact all

/-- No instruction's operand is the other spelling that R159 has in JP and in IN. -/
theorem instrOperands_are_zilog (i : Instr) :
    (instrName i == "JP" && instrOperands i == [.pair .hl]) = false ∧
      (instrName i == "IN" && instrOperands i == [.portC]) = false := by
  cases i <;> exact ⟨rfl, rfl⟩

/-- No reading of an instruction's own operands is another spelling of R159. -/
theorem zilogOperands_of_readings {i : Instr} {ops : List Operand}
    (h : List.Forall₂ (fun o o' => o ∈ readings (operandText o').toList) ops (instrOperands i)) :
    zilogOperands (instrName i) ops = ops := by
  obtain ⟨hjp, hin⟩ := instrOperands_are_zilog i
  have hown (o : Operand) := suits_of_mem_instrOperands (i := i) (o := o)
  unfold zilogOperands
  split
  next o o2 =>
    rw [if_neg]
    intro hA
    obtain ⟨hname, -⟩ := Bool.and_eq_true_iff.mp hA
    have hone := length_instrOperands_of_withA (List.contains_iff_mem.mp hname)
    rw [← h.length_eq] at hone
    cases hone
  next o =>
    rw [if_neg, if_neg]
    · rintro ⟨hname, rfl⟩
      rw [← eq_of_readings (k := nameRole (instrName i)) h (by simp [hname]; rfl) hown, hname] at hin
      cases hin
    · rintro ⟨hname, rfl⟩
      rw [← eq_of_readings (k := nameRole (instrName i)) h (by simp [hname]; rfl) hown, hname] at hjp
      cases hjp
  next => rfl

/-- A reading under which a text names an instruction is the operands themselves. -/
theorem eq_instrOperands_of_mem {i j : Instr} {ops : List Operand} (hops : ops ∈ choices (operandReadings i))
    (hj : j ∈ formsNamed (instrName i) ops) : ops = instrOperands i := by
  rw [mem_choices, operandReadings, List.forall₂_map_right_iff] at hops
  obtain ⟨-, -, hname, hopsj⟩ := mem_formsNamed.mp hj
  rw [zilogName_instrName] at hname
  rw [zilogOperands_of_readings hops] at hopsj
  refine eq_of_readings hops (fun o ho => ?_) fun o ho => suits_of_mem_instrOperands ho
  rw [← hname]
  exact suits_of_mem_instrOperands (hopsj ▸ ho)

theorem mem_assembleForms_instrText {i j : Instr} :
    j ∈ assembleForms (instrText i) ↔ j ∈ formsNamed (instrName i) (instrOperands i) := by
  rw [assembleForms_instrText, List.mem_flatMap]
  constructor
  · rintro ⟨ops, hops, hj⟩
    rwa [← eq_instrOperands_of_mem hops hj]
  · exact fun hj => ⟨_, instrOperands_mem_choices i, hj⟩

/-! ### The first of them: a documented form before an undocumented one, a shorter one before a longer one -/

theorem forms0_head : ∀ i ∈ forms0, i.wf = true → i.info.documented = true →
    forms0.find? (fun j => j.wf && instrName j == instrName i && instrOperands j == []) = some (shortestForm i) := by
  decide

theorem find?_skip {α : Type} {p : α → Bool} {a : α} {l : List α} {r : Option α} (h : p a = false) (hl : l.find? p = r) :
    (a :: l).find? p = r := by
  rw [List.find?_cons_of_neg (by simp [h]), hl]

/-- Of the forms that may have its operands, the first with the mnemonic and the operands of a documented instruction is the one
whose bytes the assembler gives: those before it have another mnemonic or other operands. -/
theorem formsNamed_head {i : Instr} (hwf : i.wf = true) (hdoc : i.info.documented = true) :
    (formsNamed (instrName i) (instrOperands i)).head? = some (shortestForm i) := by
  have hself : (i.wf && instrName i == instrName i && instrOperands i == instrOperands i) = true := by simp [hwf]
  rw [formsNamed, zilogOperands_instrOperands, zilogName_instrName, List.head?_filter]
  by_cases h0 : instrOperands i = []
  · have hmem := mem_formsWith hwf
    rw [h0] at hmem ⊢
    exact forms0_head i hmem hwf hdoc
  cases i <;> try first | (cases hwf; done) | (cases hdoc; done) | exact absurd rfl h0
  case ldNnIndDd dd nn =>
    cases dd
    case hl => exact List.find?_cons_of_pos hself
    all_goals exact find?_skip (by simp [instrOperands]) (List.find?_cons_of_pos hself)
  case addIxPp x pp =>
    cases x <;> cases pp <;> (repeat refine find?_skip rfl ?_) <;> exact List.find?_cons_of_pos hself
  case ldRHlInd k | ldDdNnInd k _ | jrCc k _ =>
    cases k <;> (repeat refine find?_skip rfl ?_) <;> exact List.find?_cons_of_pos hself
  all_goals
    repeat refine find?_skip rfl ?_
    exact List.find?_cons_of_pos hself

theorem assembleForms_head (i : Instr) :
    (assembleForms (instrText i)).head? = (formsNamed (instrName i) (instrOperands i)).head? := by
  rw [assembleForms_instrText, List.head?_flatMap]
  cases h : (choices (operandReadings i)).findSome? fun ops => (formsNamed (instrName i) ops).head? with
  | none => exact (List.findSome?_eq_none_iff.mp h _ (instrOperands_mem_choices i)).symm
  | some j =>
    obtain ⟨ops, hops, hj⟩ := List.exists_of_findSome?_eq_some h
    rw [← eq_instrOperands_of_mem hops (List.mem_of_mem_head? hj), hj]

/-- The assembler gives the bytes of a documented instruction's shortest form (R162). -/
theorem assemble_instrText {i : Instr} (hwf : i.wf = true) (hdoc : i.info.documented = true) :
    assemble (instrText i) = some (encode (shortestForm i)) := by
  rw [assemble, assembleForms_head, formsNamed_head hwf hdoc, Option.map_some]

/-! ### Other spellings (R159) -/

theorem zilogOperands_sll {name : String} (hname : name ∈ ["SLL", "SL1", "SLI"]) (ops : List Operand) :
    zilogOperands name ops = ops := by
  simp only [List.mem_cons, List.not_mem_nil, or_false] at hname
  unfold zilogOperands
  obtain rfl | rfl | rfl := hname <;> split <;> rfl

/-- `SL1` and `SLI` name the forms that `SLL` names. -/
theorem formsNamed_sll {name : String} (hname : name ∈ ["SLL", "SL1", "SLI"]) : formsNamed name = formsNamed "SLL" := by
  have hzilog : ∀ n ∈ ["SLL", "SL1", "SLI"], zilogName n = zilogName "SLL" := by decide
  funext ops
  rw [formsNamed, formsNamed, hzilog name hname, zilogOperands_sll hname, zilogOperands_sll (by decide)]

/-- `A,` before the operand names the forms that the operand alone does. -/
theorem formsNamed_withA {name : String} (hname : name ∈ ["SUB", "AND", "XOR", "OR", "CP"]) (o : Operand) :
    formsNamed name [.reg .a, o] = formsNamed name [o] := by
  simp only [List.mem_cons, List.not_mem_nil, or_false] at hname
  obtain rfl | rfl | rfl | rfl | rfl := hname <;> rfl

theorem readings_A : readings "A".toList = [.reg .a] := by decide

section
variable {i : Instr}

theorem assembleForms_name {name : String} {ts : List String}
    (hname : name ∈ if instrName i = "SLL" then ["SLL", "SL1", "SLI"] else [instrName i])
    (hts : ts ∈ choices ((instrOperands i).map operandTexts)) :
    assembleForms (joinText name ts) = assembleForms (instrText i) := by
  rw [assembleForms_instrText]
  split at hname
  next hsll =>
    have hspace : ∀ n ∈ ["SLL", "SL1", "SLI"], ' ' ∉ n.toList := by decide
    rw [assembleForms_spelling (hspace name hname) hts, formsNamed_sll hname, hsll]
  next =>
    rw [List.mem_singleton.mp hname]
    exact assembleForms_spelling (space_not_mem_instrName i) hts

theorem assembleForms_withA (hname : instrName i ∈ ["SUB", "AND", "XOR", "OR", "CP"]) {ts : List String}
    (hts : ts ∈ choices ((instrOperands i).map operandTexts)) :
    assembleForms (joinText (instrName i) ("A" :: ts)) = assembleForms (instrText i) := by
  rw [mem_choices, List.forall₂_map_right_iff] at hts
  obtain ⟨hsep, hread⟩ := operandTexts_read (fun o ho => suits_of_mem_instrOperands ho) hts
  have hA : Unseparated "A".toList := ⟨by decide, by decide⟩
  rw [assembleForms_joinText (space_not_mem_instrName i) (List.forall_mem_cons.mpr ⟨hA, hsep⟩), List.map_cons, hread,
    readings_A, ← operandReadings, choices, assembleForms_instrText]
  simp only [List.flatMap_cons, List.flatMap_nil, List.append_nil, List.flatMap_map]
  refine List.flatMap_congr fun ops hops => ?_
  have hlen : ops.length = 1 := by
    rw [mem_choices, operandReadings, List.forall₂_map_right_iff] at hops
    rw [hops.length_eq, length_instrOperands_of_withA hname]
  obtain ⟨o, rfl⟩ := List.length_eq_one_iff.mp hlen
  exact formsNamed_withA hname o

theorem assembleForms_of_mem_spellings {t : String} (ht : t ∈ spellings i) : assembleForms t = assembleForms (instrText i) := by
  simp only [spellings, List.mem_append, List.mem_flatMap, List.mem_map] at ht
  obtain (⟨name, hname, ts, hts, rfl⟩ | hA) | hother := ht
  · exact assembleForms_name hname hts
  · split at hA
    next hname =>
      obtain ⟨ts, hts, rfl⟩ := List.mem_map.mp hA
      exact assembleForms_withA (List.contains_iff_mem.mp hname) hts
    next => cases hA
  · split at hother
    · rw [List.mem_singleton.mp hother]
      decide
    · rw [List.mem_singleton.mp hother]
      decide
    · cases hother

end

/-- Settles O31: a text names the instructions with its mnemonic and operands (`mem_assembleForms_instrText`); the first of them is
the shortest form, and every other spelling is read as the text is. -/
theorem assemblingATextGivesItsBytesBack : Obligations.AssemblingATextGivesItsBytesBack := by
  intro i hwf
  refine ⟨mem_assembleForms_instrText.mpr (mem_formsNamed_self hwf), fun j hj => ?_, assemble_instrText hwf,
    fun t ht => assembleForms_of_mem_spellings ht⟩
  obtain ⟨-, hjwf, hname, hops⟩ := mem_formsNamed.mp (mem_assembleForms_instrText.mp hj)
  rw [zilogName_instrName] at hname
  rw [zilogOperands_instrOperands] at hops
  exact ⟨by rw [instrText, hname, hops, instrText], hjwf⟩

end Sys2Proof.Machine
